-- ==== Sys2Proof/Word.lean ====
section
/-! DEFINITION. The word types of the machine (`00_scope.md` R6): a datum is 8 bits, an address 16 bits, a BitOps word
32 bits. -/

namespace Sys2Proof

/-- A datum: 8 bits unsigned (R6). -/
abbrev Byte := BitVec 8

/-- An address, and the contents of `pc`, `sp` and a register pair: 16 bits unsigned (R6). Arithmetic on it wraps modulo
2^16, which is the `clip16` of R9. -/
abbrev Addr := BitVec 16

/-- A BitOps word: 32 bits (R170). -/
abbrev Word32 := BitVec 32

end Sys2Proof
end

