-- ==== Sys2Proof/Config.lean ====
section
/-! DEFINITION. The parameters of `00_scope.md` R7, which are fixed before reset (`10_state.md` R41), with the spec's defaults, and
the values the spec leaves open, the answers of unknown collaborators. The default COST table is `Op.descriptor` of
Sys2Proof/Decode.lean. -/

namespace Sys2Proof

/-- What a descriptor says besides the operation and its operands (`30_encoding.md` R153): the length in bytes, the base cost and
the extra cost of a taken condition, in cycles. -/
structure Descriptor where
  length : Nat
  cycles : Nat
  extra : Nat
deriving DecidableEq, Repr

/-- The participants a bus may have attached (`20_memory.md` R81, R84 to R87, R91): the CORE's four, those of the default
platform, and any number of others. -/
inductive Participant where
  | workRam
  | echo
  | cpu
  | highRam
  | timer
  | lcd
  | joypad
  | cartridge
  /-- A further RAM participant of range [lo, hi]; those with the same number k share their storage, offset by offset, as the echo
  shares that of work RAM. -/
  | ram (k : Byte) (lo hi : Addr)
  /-- A read-only region of range [lo, hi] (`10_state.md` R40): a fixed byte per address, writes ignored; those with the same number k
  share their contents, offset by offset. -/
  | rom (k : Byte) (lo hi : Addr)
  /-- A further collaborator, number k, that claims [lo, hi] and obeys what R92 asks of a cartridge (log entry 5). -/
  | external (k : Byte) (lo hi : Addr)
deriving DecidableEq, Repr

/-- The parameters of the machine (`00_scope.md` R7). RESET is `ResetValues` of Sys2Proof/Machine/State.lean, HOST the argument of
`hostRun` of Sys2Proof/Machine/HostBoundary.lean. -/
structure Params where
  /-- PLATFORM: the participants of the bus in attachment order. -/
  platform : List Participant
  /-- COST: the rows whose descriptor is not the default one, by their number (`Op.row` of Sys2Proof/Decode.lean); of two entries
  for one row the first counts. -/
  cost : List (Nat × Descriptor)
  /-- INT_COST: the cycles charged for servicing an interrupt (`60_exceptions.md` R412). -/
  intCost : Nat
  /-- LCD_BUDGET: the cycles of mode 2 (`63_lcd_controller.md` R510). -/
  mode2Cycles : Nat
  /-- LCD_BUDGET: the cycles of mode 3. -/
  mode3Cycles : Nat
  /-- LCD_BUDGET: the cycles of mode 0. -/
  mode0Cycles : Nat
  /-- LCD_BUDGET: the cycles of one vertical-blank line. -/
  vblankLineCycles : Nat
deriving DecidableEq, Repr

namespace Config

/-- PLATFORM's default, in attachment order (R91). -/
def platform : List Participant := [.workRam, .echo, .cpu, .highRam, .timer, .lcd, .joypad, .cartridge]

/-- The defaults of the parameters (R7). -/
def params : Params :=
  { platform := platform, cost := [], intCost := 5, mode2Cycles := 20, mode3Cycles := 43, mode0Cycles := 51
    vblankLineCycles := 114 }

/-- What a cartridge that is not a plain image answers (R92, `93_implementation_defined.md` U9): a function of the address and
of the history of the writes delivered to it, newest first, and of nothing else; `none` is NO_DATA. Uninterpreted: no
proof can see a value of it (log entry 5). Safe. -/
opaque cartridgeAnswer : List (Nat × BitVec 8) → Nat → Option (BitVec 8)

/-- The same of a further collaborator, by its number. Uninterpreted (log entry 5). Safe. -/
opaque externalAnswer : BitVec 8 → List (Nat × BitVec 8) → Nat → Option (BitVec 8)

end Config

/-- Every cost is at least one cycle, so that nothing is scheduled in the past (`92_eei_decisions.md` D4). -/
def Params.ok (p : Params) : Bool :=
  decide (1 ≤ p.intCost) && decide (1 ≤ p.mode2Cycles) && decide (1 ≤ p.mode3Cycles) && decide (1 ≤ p.mode0Cycles)
    && decide (1 ≤ p.vblankLineCycles) && p.cost.all (fun e => decide (1 ≤ e.2.cycles))

end Sys2Proof
end

