-- ==== Sys2Proof/Machine/BitOps.lean ====
section
/-! DEFINITION. BitOps (`40_bitops_alu.md` R170 to R180): stateless functions on 32-bit words, and the bit helpers on bytes that
the instructions and the devices use. A domain failure (`refuse`) is typed away by a `Fin` or a width, or is `none`
(log entry 14). -/

namespace Sys2Proof

/-- `v` with bit `i` made `b`: the `set` of R173 at any width; no change if `i` is outside the width. -/
def bitSet {w : Nat} (v : BitVec w) (i : Nat) (b : Bool) : BitVec w :=
  if b then v ||| (1#w <<< i) else v &&& ~~~(1#w <<< i)

/-- `mask(i)` (R171). -/
def BitOps.mask (i : Fin 32) : Word32 := 1#32 <<< i.val

/-- `test(bits, i)` (R172). -/
def BitOps.test (bits : Word32) (i : Fin 32) : Bool := bits.getLsbD i.val

/-- `set(bits, i, v)` (R173). -/
def BitOps.set (bits : Word32) (i : Fin 32) (v : Bool) : Word32 :=
  if v then bits ||| BitOps.mask i else bits &&& ~~~BitOps.mask i

/-- `clip(n, bits)`, n in 0..32 (R174). -/
def BitOps.clip (n : Fin 33) (bits : Word32) : Word32 := BitVec.ofNat 32 (bits.toNat % 2 ^ n.val)

/-- `extract(bits, start, len)`; `none` is the range error (R175). -/
def BitOps.extract (bits : Word32) (start len : Int) : Option Word32 :=
  if 0 ≤ start ∧ 0 ≤ len ∧ start + len ≤ 32 then
    some (BitVec.ofNat 32 (bits.toNat >>> start.toNat % 2 ^ len.toNat))
  else none

/-- `rotate(size, bits, distance)`, a positive distance toward the more significant bits; `none` is the failure (R176). -/
def BitOps.rotate (size : Nat) (bits : Word32) (distance : Int) : Option Word32 :=
  if 1 ≤ size ∧ size ≤ 32 ∧ bits.toNat < 2 ^ size then
    let d := (distance % (size : Int)).toNat
    some (BitVec.ofNat 32 ((bits.toNat <<< d ||| bits.toNat >>> (size - d)) % 2 ^ size))
  else none

/-- `signExtend8(b)` (R177). -/
def BitOps.signExtend8 (b : Byte) : Word32 := b.signExtend 32

/-- `reverse8(b)`: bit i of the result is bit 7 - i of `b` (R178). -/
def reverse8 (b : Byte) : Byte :=
  (List.range 8).foldl (fun r i => bitSet r i (b.getLsbD (7 - i))) 0

/-- `make16(high, low)` (R179). -/
def make16 (high low : Byte) : Addr := high ++ low

/-- The low byte of a 16-bit value, the one at the lower address (`20_memory.md` R94). -/
def lowByte (v : Addr) : Byte := v.setWidth 8

/-- The high byte of a 16-bit value (R94). -/
def highByte (v : Addr) : Byte := (v >>> 8).setWidth 8

/-- `sext_16(e8)`: the low 16 bits of `signExtend8(e8)` (`30_encoding.md` R135, `44_alu16.md` R323). -/
def sext16 (e8 : Byte) : Addr := (BitOps.signExtend8 e8).setWidth 16

end Sys2Proof
end

