-- ==== Sys2Proof/Machine/Operation.lean ====
section
/-! DEFINITION. The operand codes of `30_encoding.md` R132 to R134 and R137, and `Op`, the operations behind the 512 rows of
the opcode table: a row of the table is an operation with its register, condition, bit or selector fields filled in. -/

namespace Sys2Proof

/-- The register file's cells, in the index order of `10_state.md` R21: A = 0, F = 1, B = 2, ... -/
inductive Reg where
  | a | f | b | c | d | e | h | l
deriving DecidableEq, Repr

/-- The 8-bit operand registers of the field `r8` (R132): every code but 6; there is no code for F. -/
inductive R8 where
  | b | c | d | e | h | l | a
deriving DecidableEq, Repr

/-- The register pairs, which are also the field `r16af` of PUSH and POP (R133, `10_state.md` R22). -/
inductive Pair where
  | bc | de | hl | af
deriving DecidableEq, Repr

/-- The field `r16sp` of the 16-bit loads and arithmetic (R133). -/
inductive R16sp where
  | bc | de | hl | sp
deriving DecidableEq, Repr

/-- The field `r16mem` of the indirect accumulator loads (R133): (BC), (DE), (HL+), (HL-). -/
inductive R16mem where
  | bc | de | hlInc | hlDec
deriving DecidableEq, Repr

/-- The condition field `cc` (R134). -/
inductive Cond where
  | nz | z | nc | c
deriving DecidableEq, Repr

/-- The 8-bit arithmetic or logic operation selected by y when x = 2 (R141). -/
inductive AluOp where
  | add | adc | sub | sbc | and | xor | or | cp
deriving DecidableEq, Repr

/-- The prefixed rotate or shift selected by y when x = 0 (R137). -/
inductive ShiftOp where
  | rlc | rrc | rl | rr | sla | sra | swap | srl
deriving DecidableEq, Repr

/-- The operations. Each names the rules of `41_load8.md` to `48_system.md` that give its rows their meaning. -/
inductive Op where
  /-- NOP (R390). -/
  | nop
  /-- HALT (R391). -/
  | halt
  /-- STOP (R392). -/
  | stop
  /-- DI (R393). -/
  | di
  /-- EI (R394). -/
  | ei
  /-- One of the eleven unused bytes (R144). -/
  | unused (b : Byte)
  /-- LD r,r' (R231). -/
  | ldRR (dst src : R8)
  /-- LD r,n8 (R232). -/
  | ldRN (dst : R8) (n8 : Byte)
  /-- LD r,(HL) (R233). -/
  | ldRHl (dst : R8)
  /-- LD (HL),r (R234). -/
  | ldHlR (src : R8)
  /-- LD (HL),n8 (R235). -/
  | ldHlN (n8 : Byte)
  /-- LD A,(BC); LD A,(DE); LD A,(HL+); LD A,(HL-) (R236, R237, R240, R241). -/
  | ldAMem (m : R16mem)
  /-- LD (BC),A; LD (DE),A; LD (HL+),A; LD (HL-),A (R238, R239, R242, R243). -/
  | ldMemA (m : R16mem)
  /-- LDH A,(n8) (R244). -/
  | ldhAN (n8 : Byte)
  /-- LDH (n8),A (R245). -/
  | ldhNA (n8 : Byte)
  /-- LDH A,(C) (R246). -/
  | ldhAC
  /-- LDH (C),A (R247). -/
  | ldhCA
  /-- LD A,(n16) (R248). -/
  | ldANn (n16 : Addr)
  /-- LD (n16),A (R249). -/
  | ldNnA (n16 : Addr)
  /-- LD rr,n16 (R260). -/
  | ldPairN (p : R16sp) (n16 : Addr)
  /-- LD SP,HL (R261). -/
  | ldSpHl
  /-- LD (n16),SP (R262). -/
  | ldNnSp (n16 : Addr)
  /-- PUSH rr (R263). -/
  | push (p : Pair)
  /-- POP rr (R264). -/
  | pop (p : Pair)
  /-- ADD, ADC, SUB, SBC, AND, XOR, OR, CP with a register (R281, R284, R287, R290, R293, R296, R299, R302). -/
  | aluR (o : AluOp) (src : R8)
  /-- The same with an immediate (R282, R285, R288, R291, R294, R297, R300, R303). -/
  | aluN (o : AluOp) (n8 : Byte)
  /-- The same with (HL) (R283, R286, R289, R292, R295, R298, R301, R304). -/
  | aluHl (o : AluOp)
  /-- INC r (R305). -/
  | incR (r : R8)
  /-- INC (HL) (R306). -/
  | incHl
  /-- DEC r (R307). -/
  | decR (r : R8)
  /-- DEC (HL) (R308). -/
  | decHl
  /-- DAA (R309). -/
  | daa
  /-- CPL (R310). -/
  | cpl
  /-- SCF (R311). -/
  | scf
  /-- CCF (R312). -/
  | ccf
  /-- ADD HL,rr (R320). -/
  | addHl (p : R16sp)
  /-- INC rr (R321). -/
  | incPair (p : R16sp)
  /-- DEC rr (R322). -/
  | decPair (p : R16sp)
  /-- ADD SP,e8 (R323). -/
  | addSp (e8 : Byte)
  /-- LD HL,SP+e8 (R324). -/
  | ldHlSp (e8 : Byte)
  /-- RLCA (R331). -/
  | rlca
  /-- RRCA (R332). -/
  | rrca
  /-- RLA (R333). -/
  | rla
  /-- RRA (R334). -/
  | rra
  /-- RLC, RRC, RL, RR, SLA, SRA, SWAP, SRL of a register (R335, R337, R339, R341, R343, R345, R347, R349). -/
  | shiftR (o : ShiftOp) (r : R8)
  /-- The same of (HL) (R336, R338, R340, R342, R344, R346, R348, R350). -/
  | shiftHl (o : ShiftOp)
  /-- BIT b,r (R360). -/
  | bitR (b : Fin 8) (r : R8)
  /-- BIT b,(HL) (R361). -/
  | bitHl (b : Fin 8)
  /-- RES b,r (R362). -/
  | resR (b : Fin 8) (r : R8)
  /-- RES b,(HL) (R363). -/
  | resHl (b : Fin 8)
  /-- SET b,r (R364). -/
  | setR (b : Fin 8) (r : R8)
  /-- SET b,(HL) (R365). -/
  | setHl (b : Fin 8)
  /-- JP n16 (R370). -/
  | jp (n16 : Addr)
  /-- JP cc,n16 (R371). -/
  | jpCc (cc : Cond) (n16 : Addr)
  /-- JP HL (R372). -/
  | jpHl
  /-- JR e8 (R373). -/
  | jr (e8 : Byte)
  /-- JR cc,e8 (R374). -/
  | jrCc (cc : Cond) (e8 : Byte)
  /-- CALL n16 (R375). -/
  | call (n16 : Addr)
  /-- CALL cc,n16 (R376). -/
  | callCc (cc : Cond) (n16 : Addr)
  /-- RET (R377). -/
  | ret
  /-- RET cc (R378). -/
  | retCc (cc : Cond)
  /-- RETI (R379). -/
  | reti
  /-- RST 8*y (R380). -/
  | rst (y : Fin 8)
deriving DecidableEq, Repr

/-- The index of a cell of the register file (`10_state.md` R21). -/
def Reg.index : Reg → Nat
  | .a => 0 | .f => 1 | .b => 2 | .c => 3 | .d => 4 | .e => 5 | .h => 6 | .l => 7

/-- The register file's cell an operand code names (R132). -/
def R8.reg : R8 → Reg
  | .b => .b | .c => .c | .d => .d | .e => .e | .h => .h | .l => .l | .a => .a

/-- The operand code of a register (R132). -/
def R8.code : R8 → Nat
  | .b => 0 | .c => 1 | .d => 2 | .e => 3 | .h => 4 | .l => 5 | .a => 7

/-- The register of an operand code; code 6 is (HL) and names no register (R132). -/
def R8.ofCode : Nat → Option R8
  | 0 => some .b | 1 => some .c | 2 => some .d | 3 => some .e | 4 => some .h | 5 => some .l | 7 => some .a
  | _ => none

/-- The code of a pair in the field `r16af` (R133). -/
def Pair.code : Pair → Nat
  | .bc => 0 | .de => 1 | .hl => 2 | .af => 3

/-- The code of a pair in the field `r16sp` (R133). -/
def R16sp.code : R16sp → Nat
  | .bc => 0 | .de => 1 | .hl => 2 | .sp => 3

/-- The code of the field `r16mem` (R133). -/
def R16mem.code : R16mem → Nat
  | .bc => 0 | .de => 1 | .hlInc => 2 | .hlDec => 3

/-- The code of a condition (R134). -/
def Cond.code : Cond → Nat
  | .nz => 0 | .z => 1 | .nc => 2 | .c => 3

/-- The selector of an arithmetic or logic operation (R141). -/
def AluOp.code : AluOp → Nat
  | .add => 0 | .adc => 1 | .sub => 2 | .sbc => 3 | .and => 4 | .xor => 5 | .or => 6 | .cp => 7

/-- The selector of a rotate or shift (R137). -/
def ShiftOp.code : ShiftOp → Nat
  | .rlc => 0 | .rrc => 1 | .rl => 2 | .rr => 3 | .sla => 4 | .sra => 5 | .swap => 6 | .srl => 7

/-- The rotate or shift of a selector (R137). -/
def ShiftOp.ofCode : Fin 8 → ShiftOp
  | 0 => .rlc | 1 => .rrc | 2 => .rl | 3 => .rr | 4 => .sla | 5 => .sra | 6 => .swap | 7 => .srl

end Sys2Proof
end

