-- ==== Sys2Proof/Syntax.lean ====
section
/-! DEFINITION. The instructions: one constructor per row of `opcode_table.json` (`30_encoding.md` R157), the direct rows with an
immediate first (R140 to R142), then the other direct rows, then the prefixed ones (R143), each group in the table's order. A register, a condition, a bit number or an RST target is
part of the name; an immediate is an argument, `n8` and `n16` unsigned, `e8` signed in two's complement (R135). -/

namespace Sys2Proof

inductive Instr where
  /-- LD BC,n16 (R260). -/
  | ld_BC_N16 (n16 : Addr)
  /-- LD B,n8 (R232). -/
  | ld_B_N8 (n8 : Byte)
  /-- LD (n16),SP (R262). -/
  | ld_AtN16_SP (n16 : Addr)
  /-- LD C,n8 (R232). -/
  | ld_C_N8 (n8 : Byte)
  /-- LD DE,n16 (R260). -/
  | ld_DE_N16 (n16 : Addr)
  /-- LD D,n8 (R232). -/
  | ld_D_N8 (n8 : Byte)
  /-- JR e8 (R373). -/
  | jr_E8 (e8 : Byte)
  /-- LD E,n8 (R232). -/
  | ld_E_N8 (n8 : Byte)
  /-- JR NZ,e8 (R374). -/
  | jr_NZ_E8 (e8 : Byte)
  /-- LD HL,n16 (R260). -/
  | ld_HL_N16 (n16 : Addr)
  /-- LD H,n8 (R232). -/
  | ld_H_N8 (n8 : Byte)
  /-- JR Z,e8 (R374). -/
  | jr_Z_E8 (e8 : Byte)
  /-- LD L,n8 (R232). -/
  | ld_L_N8 (n8 : Byte)
  /-- JR NC,e8 (R374). -/
  | jr_NC_E8 (e8 : Byte)
  /-- LD SP,n16 (R260). -/
  | ld_SP_N16 (n16 : Addr)
  /-- LD (HL),n8 (R235). -/
  | ld_AtHL_N8 (n8 : Byte)
  /-- JR C,e8 (R374). -/
  | jr_C_E8 (e8 : Byte)
  /-- LD A,n8 (R232). -/
  | ld_A_N8 (n8 : Byte)
  /-- JP NZ,n16 (R371). -/
  | jp_NZ_N16 (n16 : Addr)
  /-- JP n16 (R370). -/
  | jp_N16 (n16 : Addr)
  /-- CALL NZ,n16 (R376). -/
  | call_NZ_N16 (n16 : Addr)
  /-- ADD A,n8 (R282). -/
  | add_A_N8 (n8 : Byte)
  /-- JP Z,n16 (R371). -/
  | jp_Z_N16 (n16 : Addr)
  /-- PREFIX CB (R395). -/
  | prefix_CB (op2 : Byte)
  /-- CALL Z,n16 (R376). -/
  | call_Z_N16 (n16 : Addr)
  /-- CALL n16 (R375). -/
  | call_N16 (n16 : Addr)
  /-- ADC A,n8 (R285). -/
  | adc_A_N8 (n8 : Byte)
  /-- JP NC,n16 (R371). -/
  | jp_NC_N16 (n16 : Addr)
  /-- CALL NC,n16 (R376). -/
  | call_NC_N16 (n16 : Addr)
  /-- SUB A,n8 (R288). -/
  | sub_A_N8 (n8 : Byte)
  /-- JP C,n16 (R371). -/
  | jp_C_N16 (n16 : Addr)
  /-- CALL C,n16 (R376). -/
  | call_C_N16 (n16 : Addr)
  /-- SBC A,n8 (R291). -/
  | sbc_A_N8 (n8 : Byte)
  /-- LDH (n8),A (R245). -/
  | ldh_AtN8_A (n8 : Byte)
  /-- AND A,n8 (R294). -/
  | and_A_N8 (n8 : Byte)
  /-- ADD SP,e8 (R323). -/
  | add_SP_E8 (e8 : Byte)
  /-- LD (n16),A (R249). -/
  | ld_AtN16_A (n16 : Addr)
  /-- XOR A,n8 (R297). -/
  | xor_A_N8 (n8 : Byte)
  /-- LDH A,(n8) (R244). -/
  | ldh_A_AtN8 (n8 : Byte)
  /-- OR A,n8 (R300). -/
  | or_A_N8 (n8 : Byte)
  /-- LD HL,SP+e8 (R324). -/
  | ld_HL_SPE8 (e8 : Byte)
  /-- LD A,(n16) (R248). -/
  | ld_A_AtN16 (n16 : Addr)
  /-- CP A,n8 (R303). -/
  | cp_A_N8 (n8 : Byte)
  /-- NOP (R390). -/
  | nop
  /-- LD (BC),A (R238). -/
  | ld_AtBC_A
  /-- INC BC (R321). -/
  | inc_BC
  /-- INC B (R305). -/
  | inc_B
  /-- DEC B (R307). -/
  | dec_B
  /-- RLCA (R331). -/
  | rlca
  /-- ADD HL,BC (R320). -/
  | add_HL_BC
  /-- LD A,(BC) (R236). -/
  | ld_A_AtBC
  /-- DEC BC (R322). -/
  | dec_BC
  /-- INC C (R305). -/
  | inc_C
  /-- DEC C (R307). -/
  | dec_C
  /-- RRCA (R332). -/
  | rrca
  /-- STOP (R392). -/
  | stop
  /-- LD (DE),A (R239). -/
  | ld_AtDE_A
  /-- INC DE (R321). -/
  | inc_DE
  /-- INC D (R305). -/
  | inc_D
  /-- DEC D (R307). -/
  | dec_D
  /-- RLA (R333). -/
  | rla
  /-- ADD HL,DE (R320). -/
  | add_HL_DE
  /-- LD A,(DE) (R237). -/
  | ld_A_AtDE
  /-- DEC DE (R322). -/
  | dec_DE
  /-- INC E (R305). -/
  | inc_E
  /-- DEC E (R307). -/
  | dec_E
  /-- RRA (R334). -/
  | rra
  /-- LD (HL+),A (R242). -/
  | ld_AtHLInc_A
  /-- INC HL (R321). -/
  | inc_HL
  /-- INC H (R305). -/
  | inc_H
  /-- DEC H (R307). -/
  | dec_H
  /-- DAA (R309). -/
  | daa
  /-- ADD HL,HL (R320). -/
  | add_HL_HL
  /-- LD A,(HL+) (R240). -/
  | ld_A_AtHLInc
  /-- DEC HL (R322). -/
  | dec_HL
  /-- INC L (R305). -/
  | inc_L
  /-- DEC L (R307). -/
  | dec_L
  /-- CPL (R310). -/
  | cpl
  /-- LD (HL-),A (R243). -/
  | ld_AtHLDec_A
  /-- INC SP (R321). -/
  | inc_SP
  /-- INC (HL) (R306). -/
  | inc_AtHL
  /-- DEC (HL) (R308). -/
  | dec_AtHL
  /-- SCF (R311). -/
  | scf
  /-- ADD HL,SP (R320). -/
  | add_HL_SP
  /-- LD A,(HL-) (R241). -/
  | ld_A_AtHLDec
  /-- DEC SP (R322). -/
  | dec_SP
  /-- INC A (R305). -/
  | inc_A
  /-- DEC A (R307). -/
  | dec_A
  /-- CCF (R312). -/
  | ccf
  /-- LD B,B (R231). -/
  | ld_B_B
  /-- LD B,C (R231). -/
  | ld_B_C
  /-- LD B,D (R231). -/
  | ld_B_D
  /-- LD B,E (R231). -/
  | ld_B_E
  /-- LD B,H (R231). -/
  | ld_B_H
  /-- LD B,L (R231). -/
  | ld_B_L
  /-- LD B,(HL) (R233). -/
  | ld_B_AtHL
  /-- LD B,A (R231). -/
  | ld_B_A
  /-- LD C,B (R231). -/
  | ld_C_B
  /-- LD C,C (R231). -/
  | ld_C_C
  /-- LD C,D (R231). -/
  | ld_C_D
  /-- LD C,E (R231). -/
  | ld_C_E
  /-- LD C,H (R231). -/
  | ld_C_H
  /-- LD C,L (R231). -/
  | ld_C_L
  /-- LD C,(HL) (R233). -/
  | ld_C_AtHL
  /-- LD C,A (R231). -/
  | ld_C_A
  /-- LD D,B (R231). -/
  | ld_D_B
  /-- LD D,C (R231). -/
  | ld_D_C
  /-- LD D,D (R231). -/
  | ld_D_D
  /-- LD D,E (R231). -/
  | ld_D_E
  /-- LD D,H (R231). -/
  | ld_D_H
  /-- LD D,L (R231). -/
  | ld_D_L
  /-- LD D,(HL) (R233). -/
  | ld_D_AtHL
  /-- LD D,A (R231). -/
  | ld_D_A
  /-- LD E,B (R231). -/
  | ld_E_B
  /-- LD E,C (R231). -/
  | ld_E_C
  /-- LD E,D (R231). -/
  | ld_E_D
  /-- LD E,E (R231). -/
  | ld_E_E
  /-- LD E,H (R231). -/
  | ld_E_H
  /-- LD E,L (R231). -/
  | ld_E_L
  /-- LD E,(HL) (R233). -/
  | ld_E_AtHL
  /-- LD E,A (R231). -/
  | ld_E_A
  /-- LD H,B (R231). -/
  | ld_H_B
  /-- LD H,C (R231). -/
  | ld_H_C
  /-- LD H,D (R231). -/
  | ld_H_D
  /-- LD H,E (R231). -/
  | ld_H_E
  /-- LD H,H (R231). -/
  | ld_H_H
  /-- LD H,L (R231). -/
  | ld_H_L
  /-- LD H,(HL) (R233). -/
  | ld_H_AtHL
  /-- LD H,A (R231). -/
  | ld_H_A
  /-- LD L,B (R231). -/
  | ld_L_B
  /-- LD L,C (R231). -/
  | ld_L_C
  /-- LD L,D (R231). -/
  | ld_L_D
  /-- LD L,E (R231). -/
  | ld_L_E
  /-- LD L,H (R231). -/
  | ld_L_H
  /-- LD L,L (R231). -/
  | ld_L_L
  /-- LD L,(HL) (R233). -/
  | ld_L_AtHL
  /-- LD L,A (R231). -/
  | ld_L_A
  /-- LD (HL),B (R234). -/
  | ld_AtHL_B
  /-- LD (HL),C (R234). -/
  | ld_AtHL_C
  /-- LD (HL),D (R234). -/
  | ld_AtHL_D
  /-- LD (HL),E (R234). -/
  | ld_AtHL_E
  /-- LD (HL),H (R234). -/
  | ld_AtHL_H
  /-- LD (HL),L (R234). -/
  | ld_AtHL_L
  /-- HALT (R391). -/
  | halt
  /-- LD (HL),A (R234). -/
  | ld_AtHL_A
  /-- LD A,B (R231). -/
  | ld_A_B
  /-- LD A,C (R231). -/
  | ld_A_C
  /-- LD A,D (R231). -/
  | ld_A_D
  /-- LD A,E (R231). -/
  | ld_A_E
  /-- LD A,H (R231). -/
  | ld_A_H
  /-- LD A,L (R231). -/
  | ld_A_L
  /-- LD A,(HL) (R233). -/
  | ld_A_AtHL
  /-- LD A,A (R231). -/
  | ld_A_A
  /-- ADD A,B (R281). -/
  | add_A_B
  /-- ADD A,C (R281). -/
  | add_A_C
  /-- ADD A,D (R281). -/
  | add_A_D
  /-- ADD A,E (R281). -/
  | add_A_E
  /-- ADD A,H (R281). -/
  | add_A_H
  /-- ADD A,L (R281). -/
  | add_A_L
  /-- ADD A,(HL) (R283). -/
  | add_A_AtHL
  /-- ADD A,A (R281). -/
  | add_A_A
  /-- ADC A,B (R284). -/
  | adc_A_B
  /-- ADC A,C (R284). -/
  | adc_A_C
  /-- ADC A,D (R284). -/
  | adc_A_D
  /-- ADC A,E (R284). -/
  | adc_A_E
  /-- ADC A,H (R284). -/
  | adc_A_H
  /-- ADC A,L (R284). -/
  | adc_A_L
  /-- ADC A,(HL) (R286). -/
  | adc_A_AtHL
  /-- ADC A,A (R284). -/
  | adc_A_A
  /-- SUB A,B (R287). -/
  | sub_A_B
  /-- SUB A,C (R287). -/
  | sub_A_C
  /-- SUB A,D (R287). -/
  | sub_A_D
  /-- SUB A,E (R287). -/
  | sub_A_E
  /-- SUB A,H (R287). -/
  | sub_A_H
  /-- SUB A,L (R287). -/
  | sub_A_L
  /-- SUB A,(HL) (R289). -/
  | sub_A_AtHL
  /-- SUB A,A (R287). -/
  | sub_A_A
  /-- SBC A,B (R290). -/
  | sbc_A_B
  /-- SBC A,C (R290). -/
  | sbc_A_C
  /-- SBC A,D (R290). -/
  | sbc_A_D
  /-- SBC A,E (R290). -/
  | sbc_A_E
  /-- SBC A,H (R290). -/
  | sbc_A_H
  /-- SBC A,L (R290). -/
  | sbc_A_L
  /-- SBC A,(HL) (R292). -/
  | sbc_A_AtHL
  /-- SBC A,A (R290). -/
  | sbc_A_A
  /-- AND A,B (R293). -/
  | and_A_B
  /-- AND A,C (R293). -/
  | and_A_C
  /-- AND A,D (R293). -/
  | and_A_D
  /-- AND A,E (R293). -/
  | and_A_E
  /-- AND A,H (R293). -/
  | and_A_H
  /-- AND A,L (R293). -/
  | and_A_L
  /-- AND A,(HL) (R295). -/
  | and_A_AtHL
  /-- AND A,A (R293). -/
  | and_A_A
  /-- XOR A,B (R296). -/
  | xor_A_B
  /-- XOR A,C (R296). -/
  | xor_A_C
  /-- XOR A,D (R296). -/
  | xor_A_D
  /-- XOR A,E (R296). -/
  | xor_A_E
  /-- XOR A,H (R296). -/
  | xor_A_H
  /-- XOR A,L (R296). -/
  | xor_A_L
  /-- XOR A,(HL) (R298). -/
  | xor_A_AtHL
  /-- XOR A,A (R296). -/
  | xor_A_A
  /-- OR A,B (R299). -/
  | or_A_B
  /-- OR A,C (R299). -/
  | or_A_C
  /-- OR A,D (R299). -/
  | or_A_D
  /-- OR A,E (R299). -/
  | or_A_E
  /-- OR A,H (R299). -/
  | or_A_H
  /-- OR A,L (R299). -/
  | or_A_L
  /-- OR A,(HL) (R301). -/
  | or_A_AtHL
  /-- OR A,A (R299). -/
  | or_A_A
  /-- CP A,B (R302). -/
  | cp_A_B
  /-- CP A,C (R302). -/
  | cp_A_C
  /-- CP A,D (R302). -/
  | cp_A_D
  /-- CP A,E (R302). -/
  | cp_A_E
  /-- CP A,H (R302). -/
  | cp_A_H
  /-- CP A,L (R302). -/
  | cp_A_L
  /-- CP A,(HL) (R304). -/
  | cp_A_AtHL
  /-- CP A,A (R302). -/
  | cp_A_A
  /-- RET NZ (R378). -/
  | ret_NZ
  /-- POP BC (R264). -/
  | pop_BC
  /-- PUSH BC (R263). -/
  | push_BC
  /-- RST 0x00 (R380). -/
  | rst_00
  /-- RET Z (R378). -/
  | ret_Z
  /-- RET (R377). -/
  | ret
  /-- RST 0x08 (R380). -/
  | rst_08
  /-- RET NC (R378). -/
  | ret_NC
  /-- POP DE (R264). -/
  | pop_DE
  /-- (unused 0xD3) (R144). -/
  | unused_D3
  /-- PUSH DE (R263). -/
  | push_DE
  /-- RST 0x10 (R380). -/
  | rst_10
  /-- RET C (R378). -/
  | ret_C
  /-- RETI (R379). -/
  | reti
  /-- (unused 0xDB) (R144). -/
  | unused_DB
  /-- (unused 0xDD) (R144). -/
  | unused_DD
  /-- RST 0x18 (R380). -/
  | rst_18
  /-- POP HL (R264). -/
  | pop_HL
  /-- LDH (C),A (R247). -/
  | ldh_AtC_A
  /-- (unused 0xE3) (R144). -/
  | unused_E3
  /-- (unused 0xE4) (R144). -/
  | unused_E4
  /-- PUSH HL (R263). -/
  | push_HL
  /-- RST 0x20 (R380). -/
  | rst_20
  /-- JP HL (R372). -/
  | jp_HL
  /-- (unused 0xEB) (R144). -/
  | unused_EB
  /-- (unused 0xEC) (R144). -/
  | unused_EC
  /-- (unused 0xED) (R144). -/
  | unused_ED
  /-- RST 0x28 (R380). -/
  | rst_28
  /-- POP AF (R264). -/
  | pop_AF
  /-- LDH A,(C) (R246). -/
  | ldh_A_AtC
  /-- DI (R393). -/
  | di
  /-- (unused 0xF4) (R144). -/
  | unused_F4
  /-- PUSH AF (R263). -/
  | push_AF
  /-- RST 0x30 (R380). -/
  | rst_30
  /-- LD SP,HL (R261). -/
  | ld_SP_HL
  /-- EI (R394). -/
  | ei
  /-- (unused 0xFC) (R144). -/
  | unused_FC
  /-- (unused 0xFD) (R144). -/
  | unused_FD
  /-- RST 0x38 (R380). -/
  | rst_38
  /-- RLC B (R335). -/
  | rlc_B
  /-- RLC C (R335). -/
  | rlc_C
  /-- RLC D (R335). -/
  | rlc_D
  /-- RLC E (R335). -/
  | rlc_E
  /-- RLC H (R335). -/
  | rlc_H
  /-- RLC L (R335). -/
  | rlc_L
  /-- RLC (HL) (R336). -/
  | rlc_AtHL
  /-- RLC A (R335). -/
  | rlc_A
  /-- RRC B (R337). -/
  | rrc_B
  /-- RRC C (R337). -/
  | rrc_C
  /-- RRC D (R337). -/
  | rrc_D
  /-- RRC E (R337). -/
  | rrc_E
  /-- RRC H (R337). -/
  | rrc_H
  /-- RRC L (R337). -/
  | rrc_L
  /-- RRC (HL) (R338). -/
  | rrc_AtHL
  /-- RRC A (R337). -/
  | rrc_A
  /-- RL B (R339). -/
  | rl_B
  /-- RL C (R339). -/
  | rl_C
  /-- RL D (R339). -/
  | rl_D
  /-- RL E (R339). -/
  | rl_E
  /-- RL H (R339). -/
  | rl_H
  /-- RL L (R339). -/
  | rl_L
  /-- RL (HL) (R340). -/
  | rl_AtHL
  /-- RL A (R339). -/
  | rl_A
  /-- RR B (R341). -/
  | rr_B
  /-- RR C (R341). -/
  | rr_C
  /-- RR D (R341). -/
  | rr_D
  /-- RR E (R341). -/
  | rr_E
  /-- RR H (R341). -/
  | rr_H
  /-- RR L (R341). -/
  | rr_L
  /-- RR (HL) (R342). -/
  | rr_AtHL
  /-- RR A (R341). -/
  | rr_A
  /-- SLA B (R343). -/
  | sla_B
  /-- SLA C (R343). -/
  | sla_C
  /-- SLA D (R343). -/
  | sla_D
  /-- SLA E (R343). -/
  | sla_E
  /-- SLA H (R343). -/
  | sla_H
  /-- SLA L (R343). -/
  | sla_L
  /-- SLA (HL) (R344). -/
  | sla_AtHL
  /-- SLA A (R343). -/
  | sla_A
  /-- SRA B (R345). -/
  | sra_B
  /-- SRA C (R345). -/
  | sra_C
  /-- SRA D (R345). -/
  | sra_D
  /-- SRA E (R345). -/
  | sra_E
  /-- SRA H (R345). -/
  | sra_H
  /-- SRA L (R345). -/
  | sra_L
  /-- SRA (HL) (R346). -/
  | sra_AtHL
  /-- SRA A (R345). -/
  | sra_A
  /-- SWAP B (R347). -/
  | swap_B
  /-- SWAP C (R347). -/
  | swap_C
  /-- SWAP D (R347). -/
  | swap_D
  /-- SWAP E (R347). -/
  | swap_E
  /-- SWAP H (R347). -/
  | swap_H
  /-- SWAP L (R347). -/
  | swap_L
  /-- SWAP (HL) (R348). -/
  | swap_AtHL
  /-- SWAP A (R347). -/
  | swap_A
  /-- SRL B (R349). -/
  | srl_B
  /-- SRL C (R349). -/
  | srl_C
  /-- SRL D (R349). -/
  | srl_D
  /-- SRL E (R349). -/
  | srl_E
  /-- SRL H (R349). -/
  | srl_H
  /-- SRL L (R349). -/
  | srl_L
  /-- SRL (HL) (R350). -/
  | srl_AtHL
  /-- SRL A (R349). -/
  | srl_A
  /-- BIT 0,B (R360). -/
  | bit_0_B
  /-- BIT 0,C (R360). -/
  | bit_0_C
  /-- BIT 0,D (R360). -/
  | bit_0_D
  /-- BIT 0,E (R360). -/
  | bit_0_E
  /-- BIT 0,H (R360). -/
  | bit_0_H
  /-- BIT 0,L (R360). -/
  | bit_0_L
  /-- BIT 0,(HL) (R361). -/
  | bit_0_AtHL
  /-- BIT 0,A (R360). -/
  | bit_0_A
  /-- BIT 1,B (R360). -/
  | bit_1_B
  /-- BIT 1,C (R360). -/
  | bit_1_C
  /-- BIT 1,D (R360). -/
  | bit_1_D
  /-- BIT 1,E (R360). -/
  | bit_1_E
  /-- BIT 1,H (R360). -/
  | bit_1_H
  /-- BIT 1,L (R360). -/
  | bit_1_L
  /-- BIT 1,(HL) (R361). -/
  | bit_1_AtHL
  /-- BIT 1,A (R360). -/
  | bit_1_A
  /-- BIT 2,B (R360). -/
  | bit_2_B
  /-- BIT 2,C (R360). -/
  | bit_2_C
  /-- BIT 2,D (R360). -/
  | bit_2_D
  /-- BIT 2,E (R360). -/
  | bit_2_E
  /-- BIT 2,H (R360). -/
  | bit_2_H
  /-- BIT 2,L (R360). -/
  | bit_2_L
  /-- BIT 2,(HL) (R361). -/
  | bit_2_AtHL
  /-- BIT 2,A (R360). -/
  | bit_2_A
  /-- BIT 3,B (R360). -/
  | bit_3_B
  /-- BIT 3,C (R360). -/
  | bit_3_C
  /-- BIT 3,D (R360). -/
  | bit_3_D
  /-- BIT 3,E (R360). -/
  | bit_3_E
  /-- BIT 3,H (R360). -/
  | bit_3_H
  /-- BIT 3,L (R360). -/
  | bit_3_L
  /-- BIT 3,(HL) (R361). -/
  | bit_3_AtHL
  /-- BIT 3,A (R360). -/
  | bit_3_A
  /-- BIT 4,B (R360). -/
  | bit_4_B
  /-- BIT 4,C (R360). -/
  | bit_4_C
  /-- BIT 4,D (R360). -/
  | bit_4_D
  /-- BIT 4,E (R360). -/
  | bit_4_E
  /-- BIT 4,H (R360). -/
  | bit_4_H
  /-- BIT 4,L (R360). -/
  | bit_4_L
  /-- BIT 4,(HL) (R361). -/
  | bit_4_AtHL
  /-- BIT 4,A (R360). -/
  | bit_4_A
  /-- BIT 5,B (R360). -/
  | bit_5_B
  /-- BIT 5,C (R360). -/
  | bit_5_C
  /-- BIT 5,D (R360). -/
  | bit_5_D
  /-- BIT 5,E (R360). -/
  | bit_5_E
  /-- BIT 5,H (R360). -/
  | bit_5_H
  /-- BIT 5,L (R360). -/
  | bit_5_L
  /-- BIT 5,(HL) (R361). -/
  | bit_5_AtHL
  /-- BIT 5,A (R360). -/
  | bit_5_A
  /-- BIT 6,B (R360). -/
  | bit_6_B
  /-- BIT 6,C (R360). -/
  | bit_6_C
  /-- BIT 6,D (R360). -/
  | bit_6_D
  /-- BIT 6,E (R360). -/
  | bit_6_E
  /-- BIT 6,H (R360). -/
  | bit_6_H
  /-- BIT 6,L (R360). -/
  | bit_6_L
  /-- BIT 6,(HL) (R361). -/
  | bit_6_AtHL
  /-- BIT 6,A (R360). -/
  | bit_6_A
  /-- BIT 7,B (R360). -/
  | bit_7_B
  /-- BIT 7,C (R360). -/
  | bit_7_C
  /-- BIT 7,D (R360). -/
  | bit_7_D
  /-- BIT 7,E (R360). -/
  | bit_7_E
  /-- BIT 7,H (R360). -/
  | bit_7_H
  /-- BIT 7,L (R360). -/
  | bit_7_L
  /-- BIT 7,(HL) (R361). -/
  | bit_7_AtHL
  /-- BIT 7,A (R360). -/
  | bit_7_A
  /-- RES 0,B (R362). -/
  | res_0_B
  /-- RES 0,C (R362). -/
  | res_0_C
  /-- RES 0,D (R362). -/
  | res_0_D
  /-- RES 0,E (R362). -/
  | res_0_E
  /-- RES 0,H (R362). -/
  | res_0_H
  /-- RES 0,L (R362). -/
  | res_0_L
  /-- RES 0,(HL) (R363). -/
  | res_0_AtHL
  /-- RES 0,A (R362). -/
  | res_0_A
  /-- RES 1,B (R362). -/
  | res_1_B
  /-- RES 1,C (R362). -/
  | res_1_C
  /-- RES 1,D (R362). -/
  | res_1_D
  /-- RES 1,E (R362). -/
  | res_1_E
  /-- RES 1,H (R362). -/
  | res_1_H
  /-- RES 1,L (R362). -/
  | res_1_L
  /-- RES 1,(HL) (R363). -/
  | res_1_AtHL
  /-- RES 1,A (R362). -/
  | res_1_A
  /-- RES 2,B (R362). -/
  | res_2_B
  /-- RES 2,C (R362). -/
  | res_2_C
  /-- RES 2,D (R362). -/
  | res_2_D
  /-- RES 2,E (R362). -/
  | res_2_E
  /-- RES 2,H (R362). -/
  | res_2_H
  /-- RES 2,L (R362). -/
  | res_2_L
  /-- RES 2,(HL) (R363). -/
  | res_2_AtHL
  /-- RES 2,A (R362). -/
  | res_2_A
  /-- RES 3,B (R362). -/
  | res_3_B
  /-- RES 3,C (R362). -/
  | res_3_C
  /-- RES 3,D (R362). -/
  | res_3_D
  /-- RES 3,E (R362). -/
  | res_3_E
  /-- RES 3,H (R362). -/
  | res_3_H
  /-- RES 3,L (R362). -/
  | res_3_L
  /-- RES 3,(HL) (R363). -/
  | res_3_AtHL
  /-- RES 3,A (R362). -/
  | res_3_A
  /-- RES 4,B (R362). -/
  | res_4_B
  /-- RES 4,C (R362). -/
  | res_4_C
  /-- RES 4,D (R362). -/
  | res_4_D
  /-- RES 4,E (R362). -/
  | res_4_E
  /-- RES 4,H (R362). -/
  | res_4_H
  /-- RES 4,L (R362). -/
  | res_4_L
  /-- RES 4,(HL) (R363). -/
  | res_4_AtHL
  /-- RES 4,A (R362). -/
  | res_4_A
  /-- RES 5,B (R362). -/
  | res_5_B
  /-- RES 5,C (R362). -/
  | res_5_C
  /-- RES 5,D (R362). -/
  | res_5_D
  /-- RES 5,E (R362). -/
  | res_5_E
  /-- RES 5,H (R362). -/
  | res_5_H
  /-- RES 5,L (R362). -/
  | res_5_L
  /-- RES 5,(HL) (R363). -/
  | res_5_AtHL
  /-- RES 5,A (R362). -/
  | res_5_A
  /-- RES 6,B (R362). -/
  | res_6_B
  /-- RES 6,C (R362). -/
  | res_6_C
  /-- RES 6,D (R362). -/
  | res_6_D
  /-- RES 6,E (R362). -/
  | res_6_E
  /-- RES 6,H (R362). -/
  | res_6_H
  /-- RES 6,L (R362). -/
  | res_6_L
  /-- RES 6,(HL) (R363). -/
  | res_6_AtHL
  /-- RES 6,A (R362). -/
  | res_6_A
  /-- RES 7,B (R362). -/
  | res_7_B
  /-- RES 7,C (R362). -/
  | res_7_C
  /-- RES 7,D (R362). -/
  | res_7_D
  /-- RES 7,E (R362). -/
  | res_7_E
  /-- RES 7,H (R362). -/
  | res_7_H
  /-- RES 7,L (R362). -/
  | res_7_L
  /-- RES 7,(HL) (R363). -/
  | res_7_AtHL
  /-- RES 7,A (R362). -/
  | res_7_A
  /-- SET 0,B (R364). -/
  | set_0_B
  /-- SET 0,C (R364). -/
  | set_0_C
  /-- SET 0,D (R364). -/
  | set_0_D
  /-- SET 0,E (R364). -/
  | set_0_E
  /-- SET 0,H (R364). -/
  | set_0_H
  /-- SET 0,L (R364). -/
  | set_0_L
  /-- SET 0,(HL) (R365). -/
  | set_0_AtHL
  /-- SET 0,A (R364). -/
  | set_0_A
  /-- SET 1,B (R364). -/
  | set_1_B
  /-- SET 1,C (R364). -/
  | set_1_C
  /-- SET 1,D (R364). -/
  | set_1_D
  /-- SET 1,E (R364). -/
  | set_1_E
  /-- SET 1,H (R364). -/
  | set_1_H
  /-- SET 1,L (R364). -/
  | set_1_L
  /-- SET 1,(HL) (R365). -/
  | set_1_AtHL
  /-- SET 1,A (R364). -/
  | set_1_A
  /-- SET 2,B (R364). -/
  | set_2_B
  /-- SET 2,C (R364). -/
  | set_2_C
  /-- SET 2,D (R364). -/
  | set_2_D
  /-- SET 2,E (R364). -/
  | set_2_E
  /-- SET 2,H (R364). -/
  | set_2_H
  /-- SET 2,L (R364). -/
  | set_2_L
  /-- SET 2,(HL) (R365). -/
  | set_2_AtHL
  /-- SET 2,A (R364). -/
  | set_2_A
  /-- SET 3,B (R364). -/
  | set_3_B
  /-- SET 3,C (R364). -/
  | set_3_C
  /-- SET 3,D (R364). -/
  | set_3_D
  /-- SET 3,E (R364). -/
  | set_3_E
  /-- SET 3,H (R364). -/
  | set_3_H
  /-- SET 3,L (R364). -/
  | set_3_L
  /-- SET 3,(HL) (R365). -/
  | set_3_AtHL
  /-- SET 3,A (R364). -/
  | set_3_A
  /-- SET 4,B (R364). -/
  | set_4_B
  /-- SET 4,C (R364). -/
  | set_4_C
  /-- SET 4,D (R364). -/
  | set_4_D
  /-- SET 4,E (R364). -/
  | set_4_E
  /-- SET 4,H (R364). -/
  | set_4_H
  /-- SET 4,L (R364). -/
  | set_4_L
  /-- SET 4,(HL) (R365). -/
  | set_4_AtHL
  /-- SET 4,A (R364). -/
  | set_4_A
  /-- SET 5,B (R364). -/
  | set_5_B
  /-- SET 5,C (R364). -/
  | set_5_C
  /-- SET 5,D (R364). -/
  | set_5_D
  /-- SET 5,E (R364). -/
  | set_5_E
  /-- SET 5,H (R364). -/
  | set_5_H
  /-- SET 5,L (R364). -/
  | set_5_L
  /-- SET 5,(HL) (R365). -/
  | set_5_AtHL
  /-- SET 5,A (R364). -/
  | set_5_A
  /-- SET 6,B (R364). -/
  | set_6_B
  /-- SET 6,C (R364). -/
  | set_6_C
  /-- SET 6,D (R364). -/
  | set_6_D
  /-- SET 6,E (R364). -/
  | set_6_E
  /-- SET 6,H (R364). -/
  | set_6_H
  /-- SET 6,L (R364). -/
  | set_6_L
  /-- SET 6,(HL) (R365). -/
  | set_6_AtHL
  /-- SET 6,A (R364). -/
  | set_6_A
  /-- SET 7,B (R364). -/
  | set_7_B
  /-- SET 7,C (R364). -/
  | set_7_C
  /-- SET 7,D (R364). -/
  | set_7_D
  /-- SET 7,E (R364). -/
  | set_7_E
  /-- SET 7,H (R364). -/
  | set_7_H
  /-- SET 7,L (R364). -/
  | set_7_L
  /-- SET 7,(HL) (R365). -/
  | set_7_AtHL
  /-- SET 7,A (R364). -/
  | set_7_A
deriving DecidableEq, Repr

end Sys2Proof
end

