-- ==== Sys2Proof/Decode.lean ====
section
/-! DEFINITION. The instruction tables: the operation of each row, the descriptors (`30_encoding.md` R153), the decoder (R130,
R136, R139 to R144) and, after it, the encoder. Every byte sequence of the length its first byte asks for decodes. -/

namespace Sys2Proof

/-- The default COST table (R140 to R143, R157). STOP and the unused bytes have no cost, they raise a fault (R144, R145); the length
1 of an unused byte is the one `opcode_table.json` gives its row. The length of a prefixed operation and its cost include the
prefix byte (R136). -/
def Op.descriptor : Op → Descriptor
  | .nop => ⟨1, 1, 0⟩
  | .halt => ⟨1, 1, 0⟩
  | .stop => ⟨2, 0, 0⟩
  | .di => ⟨1, 1, 0⟩
  | .ei => ⟨1, 1, 0⟩
  | .unused _ => ⟨1, 0, 0⟩
  | .ldRR _ _ => ⟨1, 1, 0⟩
  | .ldRN _ _ => ⟨2, 2, 0⟩
  | .ldRHl _ => ⟨1, 2, 0⟩
  | .ldHlR _ => ⟨1, 2, 0⟩
  | .ldHlN _ => ⟨2, 3, 0⟩
  | .ldAMem _ => ⟨1, 2, 0⟩
  | .ldMemA _ => ⟨1, 2, 0⟩
  | .ldhAN _ => ⟨2, 3, 0⟩
  | .ldhNA _ => ⟨2, 3, 0⟩
  | .ldhAC => ⟨1, 2, 0⟩
  | .ldhCA => ⟨1, 2, 0⟩
  | .ldANn _ => ⟨3, 4, 0⟩
  | .ldNnA _ => ⟨3, 4, 0⟩
  | .ldPairN _ _ => ⟨3, 3, 0⟩
  | .ldSpHl => ⟨1, 2, 0⟩
  | .ldNnSp _ => ⟨3, 5, 0⟩
  | .push _ => ⟨1, 4, 0⟩
  | .pop _ => ⟨1, 3, 0⟩
  | .aluR _ _ => ⟨1, 1, 0⟩
  | .aluN _ _ => ⟨2, 2, 0⟩
  | .aluHl _ => ⟨1, 2, 0⟩
  | .incR _ => ⟨1, 1, 0⟩
  | .incHl => ⟨1, 3, 0⟩
  | .decR _ => ⟨1, 1, 0⟩
  | .decHl => ⟨1, 3, 0⟩
  | .daa => ⟨1, 1, 0⟩
  | .cpl => ⟨1, 1, 0⟩
  | .scf => ⟨1, 1, 0⟩
  | .ccf => ⟨1, 1, 0⟩
  | .addHl _ => ⟨1, 2, 0⟩
  | .incPair _ => ⟨1, 2, 0⟩
  | .decPair _ => ⟨1, 2, 0⟩
  | .addSp _ => ⟨2, 4, 0⟩
  | .ldHlSp _ => ⟨2, 3, 0⟩
  | .rlca => ⟨1, 1, 0⟩
  | .rrca => ⟨1, 1, 0⟩
  | .rla => ⟨1, 1, 0⟩
  | .rra => ⟨1, 1, 0⟩
  | .shiftR _ _ => ⟨2, 2, 0⟩
  | .shiftHl _ => ⟨2, 4, 0⟩
  | .bitR _ _ => ⟨2, 2, 0⟩
  | .bitHl _ => ⟨2, 3, 0⟩
  | .resR _ _ => ⟨2, 2, 0⟩
  | .resHl _ => ⟨2, 4, 0⟩
  | .setR _ _ => ⟨2, 2, 0⟩
  | .setHl _ => ⟨2, 4, 0⟩
  | .jp _ => ⟨3, 4, 0⟩
  | .jpCc _ _ => ⟨3, 3, 1⟩
  | .jpHl => ⟨1, 1, 0⟩
  | .jr _ => ⟨2, 3, 0⟩
  | .jrCc _ _ => ⟨2, 2, 1⟩
  | .call _ => ⟨3, 6, 0⟩
  | .callCc _ _ => ⟨3, 3, 3⟩
  | .ret => ⟨1, 4, 0⟩
  | .retCc _ => ⟨1, 2, 3⟩
  | .reti => ⟨1, 4, 0⟩
  | .rst _ => ⟨1, 4, 0⟩

/-- Bits `lo` to `lo + 2` of an opcode byte, the fields y and z (R131, R137). -/
def field3 (b : Byte) (lo : Nat) : Fin 8 := (b.extractLsb' lo 3).toFin

/-- The field x of an opcode byte (R131, R137). -/
def field2 (b : Byte) (lo : Nat) : Fin 4 := (b.extractLsb' lo 2).toFin

/-- The prefixed operation of a second byte, by its fields x, y, z (R137). -/
def prefixedOp (op2 : Byte) : Op :=
  let y := field3 op2 3
  match field2 op2 6, R8.ofCode (field3 op2 0).val with
  | 0, some r => .shiftR (ShiftOp.ofCode y) r
  | 0, none => .shiftHl (ShiftOp.ofCode y)
  | 1, some r => .bitR y r
  | 1, none => .bitHl y
  | 2, some r => .resR y r
  | 2, none => .resHl y
  | 3, some r => .setR y r
  | 3, none => .setHl y

/-- The operation of each row of the opcode table. -/
def Instr.op : Instr → Op
  | .ld_BC_N16 n16 => .ldPairN .bc n16
  | .ld_B_N8 n8 => .ldRN .b n8
  | .ld_AtN16_SP n16 => .ldNnSp n16
  | .ld_C_N8 n8 => .ldRN .c n8
  | .ld_DE_N16 n16 => .ldPairN .de n16
  | .ld_D_N8 n8 => .ldRN .d n8
  | .jr_E8 e8 => .jr e8
  | .ld_E_N8 n8 => .ldRN .e n8
  | .jr_NZ_E8 e8 => .jrCc .nz e8
  | .ld_HL_N16 n16 => .ldPairN .hl n16
  | .ld_H_N8 n8 => .ldRN .h n8
  | .jr_Z_E8 e8 => .jrCc .z e8
  | .ld_L_N8 n8 => .ldRN .l n8
  | .jr_NC_E8 e8 => .jrCc .nc e8
  | .ld_SP_N16 n16 => .ldPairN .sp n16
  | .ld_AtHL_N8 n8 => .ldHlN n8
  | .jr_C_E8 e8 => .jrCc .c e8
  | .ld_A_N8 n8 => .ldRN .a n8
  | .jp_NZ_N16 n16 => .jpCc .nz n16
  | .jp_N16 n16 => .jp n16
  | .call_NZ_N16 n16 => .callCc .nz n16
  | .add_A_N8 n8 => .aluN .add n8
  | .jp_Z_N16 n16 => .jpCc .z n16
  | .prefix_CB op2 => prefixedOp op2
  | .call_Z_N16 n16 => .callCc .z n16
  | .call_N16 n16 => .call n16
  | .adc_A_N8 n8 => .aluN .adc n8
  | .jp_NC_N16 n16 => .jpCc .nc n16
  | .call_NC_N16 n16 => .callCc .nc n16
  | .sub_A_N8 n8 => .aluN .sub n8
  | .jp_C_N16 n16 => .jpCc .c n16
  | .call_C_N16 n16 => .callCc .c n16
  | .sbc_A_N8 n8 => .aluN .sbc n8
  | .ldh_AtN8_A n8 => .ldhNA n8
  | .and_A_N8 n8 => .aluN .and n8
  | .add_SP_E8 e8 => .addSp e8
  | .ld_AtN16_A n16 => .ldNnA n16
  | .xor_A_N8 n8 => .aluN .xor n8
  | .ldh_A_AtN8 n8 => .ldhAN n8
  | .or_A_N8 n8 => .aluN .or n8
  | .ld_HL_SPE8 e8 => .ldHlSp e8
  | .ld_A_AtN16 n16 => .ldANn n16
  | .cp_A_N8 n8 => .aluN .cp n8
  | .nop => .nop
  | .ld_AtBC_A => .ldMemA .bc
  | .inc_BC => .incPair .bc
  | .inc_B => .incR .b
  | .dec_B => .decR .b
  | .rlca => .rlca
  | .add_HL_BC => .addHl .bc
  | .ld_A_AtBC => .ldAMem .bc
  | .dec_BC => .decPair .bc
  | .inc_C => .incR .c
  | .dec_C => .decR .c
  | .rrca => .rrca
  | .stop => .stop
  | .ld_AtDE_A => .ldMemA .de
  | .inc_DE => .incPair .de
  | .inc_D => .incR .d
  | .dec_D => .decR .d
  | .rla => .rla
  | .add_HL_DE => .addHl .de
  | .ld_A_AtDE => .ldAMem .de
  | .dec_DE => .decPair .de
  | .inc_E => .incR .e
  | .dec_E => .decR .e
  | .rra => .rra
  | .ld_AtHLInc_A => .ldMemA .hlInc
  | .inc_HL => .incPair .hl
  | .inc_H => .incR .h
  | .dec_H => .decR .h
  | .daa => .daa
  | .add_HL_HL => .addHl .hl
  | .ld_A_AtHLInc => .ldAMem .hlInc
  | .dec_HL => .decPair .hl
  | .inc_L => .incR .l
  | .dec_L => .decR .l
  | .cpl => .cpl
  | .ld_AtHLDec_A => .ldMemA .hlDec
  | .inc_SP => .incPair .sp
  | .inc_AtHL => .incHl
  | .dec_AtHL => .decHl
  | .scf => .scf
  | .add_HL_SP => .addHl .sp
  | .ld_A_AtHLDec => .ldAMem .hlDec
  | .dec_SP => .decPair .sp
  | .inc_A => .incR .a
  | .dec_A => .decR .a
  | .ccf => .ccf
  | .ld_B_B => .ldRR .b .b
  | .ld_B_C => .ldRR .b .c
  | .ld_B_D => .ldRR .b .d
  | .ld_B_E => .ldRR .b .e
  | .ld_B_H => .ldRR .b .h
  | .ld_B_L => .ldRR .b .l
  | .ld_B_AtHL => .ldRHl .b
  | .ld_B_A => .ldRR .b .a
  | .ld_C_B => .ldRR .c .b
  | .ld_C_C => .ldRR .c .c
  | .ld_C_D => .ldRR .c .d
  | .ld_C_E => .ldRR .c .e
  | .ld_C_H => .ldRR .c .h
  | .ld_C_L => .ldRR .c .l
  | .ld_C_AtHL => .ldRHl .c
  | .ld_C_A => .ldRR .c .a
  | .ld_D_B => .ldRR .d .b
  | .ld_D_C => .ldRR .d .c
  | .ld_D_D => .ldRR .d .d
  | .ld_D_E => .ldRR .d .e
  | .ld_D_H => .ldRR .d .h
  | .ld_D_L => .ldRR .d .l
  | .ld_D_AtHL => .ldRHl .d
  | .ld_D_A => .ldRR .d .a
  | .ld_E_B => .ldRR .e .b
  | .ld_E_C => .ldRR .e .c
  | .ld_E_D => .ldRR .e .d
  | .ld_E_E => .ldRR .e .e
  | .ld_E_H => .ldRR .e .h
  | .ld_E_L => .ldRR .e .l
  | .ld_E_AtHL => .ldRHl .e
  | .ld_E_A => .ldRR .e .a
  | .ld_H_B => .ldRR .h .b
  | .ld_H_C => .ldRR .h .c
  | .ld_H_D => .ldRR .h .d
  | .ld_H_E => .ldRR .h .e
  | .ld_H_H => .ldRR .h .h
  | .ld_H_L => .ldRR .h .l
  | .ld_H_AtHL => .ldRHl .h
  | .ld_H_A => .ldRR .h .a
  | .ld_L_B => .ldRR .l .b
  | .ld_L_C => .ldRR .l .c
  | .ld_L_D => .ldRR .l .d
  | .ld_L_E => .ldRR .l .e
  | .ld_L_H => .ldRR .l .h
  | .ld_L_L => .ldRR .l .l
  | .ld_L_AtHL => .ldRHl .l
  | .ld_L_A => .ldRR .l .a
  | .ld_AtHL_B => .ldHlR .b
  | .ld_AtHL_C => .ldHlR .c
  | .ld_AtHL_D => .ldHlR .d
  | .ld_AtHL_E => .ldHlR .e
  | .ld_AtHL_H => .ldHlR .h
  | .ld_AtHL_L => .ldHlR .l
  | .halt => .halt
  | .ld_AtHL_A => .ldHlR .a
  | .ld_A_B => .ldRR .a .b
  | .ld_A_C => .ldRR .a .c
  | .ld_A_D => .ldRR .a .d
  | .ld_A_E => .ldRR .a .e
  | .ld_A_H => .ldRR .a .h
  | .ld_A_L => .ldRR .a .l
  | .ld_A_AtHL => .ldRHl .a
  | .ld_A_A => .ldRR .a .a
  | .add_A_B => .aluR .add .b
  | .add_A_C => .aluR .add .c
  | .add_A_D => .aluR .add .d
  | .add_A_E => .aluR .add .e
  | .add_A_H => .aluR .add .h
  | .add_A_L => .aluR .add .l
  | .add_A_AtHL => .aluHl .add
  | .add_A_A => .aluR .add .a
  | .adc_A_B => .aluR .adc .b
  | .adc_A_C => .aluR .adc .c
  | .adc_A_D => .aluR .adc .d
  | .adc_A_E => .aluR .adc .e
  | .adc_A_H => .aluR .adc .h
  | .adc_A_L => .aluR .adc .l
  | .adc_A_AtHL => .aluHl .adc
  | .adc_A_A => .aluR .adc .a
  | .sub_A_B => .aluR .sub .b
  | .sub_A_C => .aluR .sub .c
  | .sub_A_D => .aluR .sub .d
  | .sub_A_E => .aluR .sub .e
  | .sub_A_H => .aluR .sub .h
  | .sub_A_L => .aluR .sub .l
  | .sub_A_AtHL => .aluHl .sub
  | .sub_A_A => .aluR .sub .a
  | .sbc_A_B => .aluR .sbc .b
  | .sbc_A_C => .aluR .sbc .c
  | .sbc_A_D => .aluR .sbc .d
  | .sbc_A_E => .aluR .sbc .e
  | .sbc_A_H => .aluR .sbc .h
  | .sbc_A_L => .aluR .sbc .l
  | .sbc_A_AtHL => .aluHl .sbc
  | .sbc_A_A => .aluR .sbc .a
  | .and_A_B => .aluR .and .b
  | .and_A_C => .aluR .and .c
  | .and_A_D => .aluR .and .d
  | .and_A_E => .aluR .and .e
  | .and_A_H => .aluR .and .h
  | .and_A_L => .aluR .and .l
  | .and_A_AtHL => .aluHl .and
  | .and_A_A => .aluR .and .a
  | .xor_A_B => .aluR .xor .b
  | .xor_A_C => .aluR .xor .c
  | .xor_A_D => .aluR .xor .d
  | .xor_A_E => .aluR .xor .e
  | .xor_A_H => .aluR .xor .h
  | .xor_A_L => .aluR .xor .l
  | .xor_A_AtHL => .aluHl .xor
  | .xor_A_A => .aluR .xor .a
  | .or_A_B => .aluR .or .b
  | .or_A_C => .aluR .or .c
  | .or_A_D => .aluR .or .d
  | .or_A_E => .aluR .or .e
  | .or_A_H => .aluR .or .h
  | .or_A_L => .aluR .or .l
  | .or_A_AtHL => .aluHl .or
  | .or_A_A => .aluR .or .a
  | .cp_A_B => .aluR .cp .b
  | .cp_A_C => .aluR .cp .c
  | .cp_A_D => .aluR .cp .d
  | .cp_A_E => .aluR .cp .e
  | .cp_A_H => .aluR .cp .h
  | .cp_A_L => .aluR .cp .l
  | .cp_A_AtHL => .aluHl .cp
  | .cp_A_A => .aluR .cp .a
  | .ret_NZ => .retCc .nz
  | .pop_BC => .pop .bc
  | .push_BC => .push .bc
  | .rst_00 => .rst 0
  | .ret_Z => .retCc .z
  | .ret => .ret
  | .rst_08 => .rst 1
  | .ret_NC => .retCc .nc
  | .pop_DE => .pop .de
  | .unused_D3 => .unused 0xD3#8
  | .push_DE => .push .de
  | .rst_10 => .rst 2
  | .ret_C => .retCc .c
  | .reti => .reti
  | .unused_DB => .unused 0xDB#8
  | .unused_DD => .unused 0xDD#8
  | .rst_18 => .rst 3
  | .pop_HL => .pop .hl
  | .ldh_AtC_A => .ldhCA
  | .unused_E3 => .unused 0xE3#8
  | .unused_E4 => .unused 0xE4#8
  | .push_HL => .push .hl
  | .rst_20 => .rst 4
  | .jp_HL => .jpHl
  | .unused_EB => .unused 0xEB#8
  | .unused_EC => .unused 0xEC#8
  | .unused_ED => .unused 0xED#8
  | .rst_28 => .rst 5
  | .pop_AF => .pop .af
  | .ldh_A_AtC => .ldhAC
  | .di => .di
  | .unused_F4 => .unused 0xF4#8
  | .push_AF => .push .af
  | .rst_30 => .rst 6
  | .ld_SP_HL => .ldSpHl
  | .ei => .ei
  | .unused_FC => .unused 0xFC#8
  | .unused_FD => .unused 0xFD#8
  | .rst_38 => .rst 7
  | .rlc_B => .shiftR .rlc .b
  | .rlc_C => .shiftR .rlc .c
  | .rlc_D => .shiftR .rlc .d
  | .rlc_E => .shiftR .rlc .e
  | .rlc_H => .shiftR .rlc .h
  | .rlc_L => .shiftR .rlc .l
  | .rlc_AtHL => .shiftHl .rlc
  | .rlc_A => .shiftR .rlc .a
  | .rrc_B => .shiftR .rrc .b
  | .rrc_C => .shiftR .rrc .c
  | .rrc_D => .shiftR .rrc .d
  | .rrc_E => .shiftR .rrc .e
  | .rrc_H => .shiftR .rrc .h
  | .rrc_L => .shiftR .rrc .l
  | .rrc_AtHL => .shiftHl .rrc
  | .rrc_A => .shiftR .rrc .a
  | .rl_B => .shiftR .rl .b
  | .rl_C => .shiftR .rl .c
  | .rl_D => .shiftR .rl .d
  | .rl_E => .shiftR .rl .e
  | .rl_H => .shiftR .rl .h
  | .rl_L => .shiftR .rl .l
  | .rl_AtHL => .shiftHl .rl
  | .rl_A => .shiftR .rl .a
  | .rr_B => .shiftR .rr .b
  | .rr_C => .shiftR .rr .c
  | .rr_D => .shiftR .rr .d
  | .rr_E => .shiftR .rr .e
  | .rr_H => .shiftR .rr .h
  | .rr_L => .shiftR .rr .l
  | .rr_AtHL => .shiftHl .rr
  | .rr_A => .shiftR .rr .a
  | .sla_B => .shiftR .sla .b
  | .sla_C => .shiftR .sla .c
  | .sla_D => .shiftR .sla .d
  | .sla_E => .shiftR .sla .e
  | .sla_H => .shiftR .sla .h
  | .sla_L => .shiftR .sla .l
  | .sla_AtHL => .shiftHl .sla
  | .sla_A => .shiftR .sla .a
  | .sra_B => .shiftR .sra .b
  | .sra_C => .shiftR .sra .c
  | .sra_D => .shiftR .sra .d
  | .sra_E => .shiftR .sra .e
  | .sra_H => .shiftR .sra .h
  | .sra_L => .shiftR .sra .l
  | .sra_AtHL => .shiftHl .sra
  | .sra_A => .shiftR .sra .a
  | .swap_B => .shiftR .swap .b
  | .swap_C => .shiftR .swap .c
  | .swap_D => .shiftR .swap .d
  | .swap_E => .shiftR .swap .e
  | .swap_H => .shiftR .swap .h
  | .swap_L => .shiftR .swap .l
  | .swap_AtHL => .shiftHl .swap
  | .swap_A => .shiftR .swap .a
  | .srl_B => .shiftR .srl .b
  | .srl_C => .shiftR .srl .c
  | .srl_D => .shiftR .srl .d
  | .srl_E => .shiftR .srl .e
  | .srl_H => .shiftR .srl .h
  | .srl_L => .shiftR .srl .l
  | .srl_AtHL => .shiftHl .srl
  | .srl_A => .shiftR .srl .a
  | .bit_0_B => .bitR 0 .b
  | .bit_0_C => .bitR 0 .c
  | .bit_0_D => .bitR 0 .d
  | .bit_0_E => .bitR 0 .e
  | .bit_0_H => .bitR 0 .h
  | .bit_0_L => .bitR 0 .l
  | .bit_0_AtHL => .bitHl 0
  | .bit_0_A => .bitR 0 .a
  | .bit_1_B => .bitR 1 .b
  | .bit_1_C => .bitR 1 .c
  | .bit_1_D => .bitR 1 .d
  | .bit_1_E => .bitR 1 .e
  | .bit_1_H => .bitR 1 .h
  | .bit_1_L => .bitR 1 .l
  | .bit_1_AtHL => .bitHl 1
  | .bit_1_A => .bitR 1 .a
  | .bit_2_B => .bitR 2 .b
  | .bit_2_C => .bitR 2 .c
  | .bit_2_D => .bitR 2 .d
  | .bit_2_E => .bitR 2 .e
  | .bit_2_H => .bitR 2 .h
  | .bit_2_L => .bitR 2 .l
  | .bit_2_AtHL => .bitHl 2
  | .bit_2_A => .bitR 2 .a
  | .bit_3_B => .bitR 3 .b
  | .bit_3_C => .bitR 3 .c
  | .bit_3_D => .bitR 3 .d
  | .bit_3_E => .bitR 3 .e
  | .bit_3_H => .bitR 3 .h
  | .bit_3_L => .bitR 3 .l
  | .bit_3_AtHL => .bitHl 3
  | .bit_3_A => .bitR 3 .a
  | .bit_4_B => .bitR 4 .b
  | .bit_4_C => .bitR 4 .c
  | .bit_4_D => .bitR 4 .d
  | .bit_4_E => .bitR 4 .e
  | .bit_4_H => .bitR 4 .h
  | .bit_4_L => .bitR 4 .l
  | .bit_4_AtHL => .bitHl 4
  | .bit_4_A => .bitR 4 .a
  | .bit_5_B => .bitR 5 .b
  | .bit_5_C => .bitR 5 .c
  | .bit_5_D => .bitR 5 .d
  | .bit_5_E => .bitR 5 .e
  | .bit_5_H => .bitR 5 .h
  | .bit_5_L => .bitR 5 .l
  | .bit_5_AtHL => .bitHl 5
  | .bit_5_A => .bitR 5 .a
  | .bit_6_B => .bitR 6 .b
  | .bit_6_C => .bitR 6 .c
  | .bit_6_D => .bitR 6 .d
  | .bit_6_E => .bitR 6 .e
  | .bit_6_H => .bitR 6 .h
  | .bit_6_L => .bitR 6 .l
  | .bit_6_AtHL => .bitHl 6
  | .bit_6_A => .bitR 6 .a
  | .bit_7_B => .bitR 7 .b
  | .bit_7_C => .bitR 7 .c
  | .bit_7_D => .bitR 7 .d
  | .bit_7_E => .bitR 7 .e
  | .bit_7_H => .bitR 7 .h
  | .bit_7_L => .bitR 7 .l
  | .bit_7_AtHL => .bitHl 7
  | .bit_7_A => .bitR 7 .a
  | .res_0_B => .resR 0 .b
  | .res_0_C => .resR 0 .c
  | .res_0_D => .resR 0 .d
  | .res_0_E => .resR 0 .e
  | .res_0_H => .resR 0 .h
  | .res_0_L => .resR 0 .l
  | .res_0_AtHL => .resHl 0
  | .res_0_A => .resR 0 .a
  | .res_1_B => .resR 1 .b
  | .res_1_C => .resR 1 .c
  | .res_1_D => .resR 1 .d
  | .res_1_E => .resR 1 .e
  | .res_1_H => .resR 1 .h
  | .res_1_L => .resR 1 .l
  | .res_1_AtHL => .resHl 1
  | .res_1_A => .resR 1 .a
  | .res_2_B => .resR 2 .b
  | .res_2_C => .resR 2 .c
  | .res_2_D => .resR 2 .d
  | .res_2_E => .resR 2 .e
  | .res_2_H => .resR 2 .h
  | .res_2_L => .resR 2 .l
  | .res_2_AtHL => .resHl 2
  | .res_2_A => .resR 2 .a
  | .res_3_B => .resR 3 .b
  | .res_3_C => .resR 3 .c
  | .res_3_D => .resR 3 .d
  | .res_3_E => .resR 3 .e
  | .res_3_H => .resR 3 .h
  | .res_3_L => .resR 3 .l
  | .res_3_AtHL => .resHl 3
  | .res_3_A => .resR 3 .a
  | .res_4_B => .resR 4 .b
  | .res_4_C => .resR 4 .c
  | .res_4_D => .resR 4 .d
  | .res_4_E => .resR 4 .e
  | .res_4_H => .resR 4 .h
  | .res_4_L => .resR 4 .l
  | .res_4_AtHL => .resHl 4
  | .res_4_A => .resR 4 .a
  | .res_5_B => .resR 5 .b
  | .res_5_C => .resR 5 .c
  | .res_5_D => .resR 5 .d
  | .res_5_E => .resR 5 .e
  | .res_5_H => .resR 5 .h
  | .res_5_L => .resR 5 .l
  | .res_5_AtHL => .resHl 5
  | .res_5_A => .resR 5 .a
  | .res_6_B => .resR 6 .b
  | .res_6_C => .resR 6 .c
  | .res_6_D => .resR 6 .d
  | .res_6_E => .resR 6 .e
  | .res_6_H => .resR 6 .h
  | .res_6_L => .resR 6 .l
  | .res_6_AtHL => .resHl 6
  | .res_6_A => .resR 6 .a
  | .res_7_B => .resR 7 .b
  | .res_7_C => .resR 7 .c
  | .res_7_D => .resR 7 .d
  | .res_7_E => .resR 7 .e
  | .res_7_H => .resR 7 .h
  | .res_7_L => .resR 7 .l
  | .res_7_AtHL => .resHl 7
  | .res_7_A => .resR 7 .a
  | .set_0_B => .setR 0 .b
  | .set_0_C => .setR 0 .c
  | .set_0_D => .setR 0 .d
  | .set_0_E => .setR 0 .e
  | .set_0_H => .setR 0 .h
  | .set_0_L => .setR 0 .l
  | .set_0_AtHL => .setHl 0
  | .set_0_A => .setR 0 .a
  | .set_1_B => .setR 1 .b
  | .set_1_C => .setR 1 .c
  | .set_1_D => .setR 1 .d
  | .set_1_E => .setR 1 .e
  | .set_1_H => .setR 1 .h
  | .set_1_L => .setR 1 .l
  | .set_1_AtHL => .setHl 1
  | .set_1_A => .setR 1 .a
  | .set_2_B => .setR 2 .b
  | .set_2_C => .setR 2 .c
  | .set_2_D => .setR 2 .d
  | .set_2_E => .setR 2 .e
  | .set_2_H => .setR 2 .h
  | .set_2_L => .setR 2 .l
  | .set_2_AtHL => .setHl 2
  | .set_2_A => .setR 2 .a
  | .set_3_B => .setR 3 .b
  | .set_3_C => .setR 3 .c
  | .set_3_D => .setR 3 .d
  | .set_3_E => .setR 3 .e
  | .set_3_H => .setR 3 .h
  | .set_3_L => .setR 3 .l
  | .set_3_AtHL => .setHl 3
  | .set_3_A => .setR 3 .a
  | .set_4_B => .setR 4 .b
  | .set_4_C => .setR 4 .c
  | .set_4_D => .setR 4 .d
  | .set_4_E => .setR 4 .e
  | .set_4_H => .setR 4 .h
  | .set_4_L => .setR 4 .l
  | .set_4_AtHL => .setHl 4
  | .set_4_A => .setR 4 .a
  | .set_5_B => .setR 5 .b
  | .set_5_C => .setR 5 .c
  | .set_5_D => .setR 5 .d
  | .set_5_E => .setR 5 .e
  | .set_5_H => .setR 5 .h
  | .set_5_L => .setR 5 .l
  | .set_5_AtHL => .setHl 5
  | .set_5_A => .setR 5 .a
  | .set_6_B => .setR 6 .b
  | .set_6_C => .setR 6 .c
  | .set_6_D => .setR 6 .d
  | .set_6_E => .setR 6 .e
  | .set_6_H => .setR 6 .h
  | .set_6_L => .setR 6 .l
  | .set_6_AtHL => .setHl 6
  | .set_6_A => .setR 6 .a
  | .set_7_B => .setR 7 .b
  | .set_7_C => .setR 7 .c
  | .set_7_D => .setR 7 .d
  | .set_7_E => .setR 7 .e
  | .set_7_H => .setR 7 .h
  | .set_7_L => .setR 7 .l
  | .set_7_AtHL => .setHl 7
  | .set_7_A => .setR 7 .a

/-- Row 0x00 of the prefixed table, by the low nibble of the byte (R143). -/
def decodePrefixed0 : Nat → Instr
  | 0 => .rlc_B
  | 1 => .rlc_C
  | 2 => .rlc_D
  | 3 => .rlc_E
  | 4 => .rlc_H
  | 5 => .rlc_L
  | 6 => .rlc_AtHL
  | 7 => .rlc_A
  | 8 => .rrc_B
  | 9 => .rrc_C
  | 10 => .rrc_D
  | 11 => .rrc_E
  | 12 => .rrc_H
  | 13 => .rrc_L
  | 14 => .rrc_AtHL
  | _ => .rrc_A

/-- Row 0x10 of the prefixed table, by the low nibble of the byte (R143). -/
def decodePrefixed1 : Nat → Instr
  | 0 => .rl_B
  | 1 => .rl_C
  | 2 => .rl_D
  | 3 => .rl_E
  | 4 => .rl_H
  | 5 => .rl_L
  | 6 => .rl_AtHL
  | 7 => .rl_A
  | 8 => .rr_B
  | 9 => .rr_C
  | 10 => .rr_D
  | 11 => .rr_E
  | 12 => .rr_H
  | 13 => .rr_L
  | 14 => .rr_AtHL
  | _ => .rr_A

/-- Row 0x20 of the prefixed table, by the low nibble of the byte (R143). -/
def decodePrefixed2 : Nat → Instr
  | 0 => .sla_B
  | 1 => .sla_C
  | 2 => .sla_D
  | 3 => .sla_E
  | 4 => .sla_H
  | 5 => .sla_L
  | 6 => .sla_AtHL
  | 7 => .sla_A
  | 8 => .sra_B
  | 9 => .sra_C
  | 10 => .sra_D
  | 11 => .sra_E
  | 12 => .sra_H
  | 13 => .sra_L
  | 14 => .sra_AtHL
  | _ => .sra_A

/-- Row 0x30 of the prefixed table, by the low nibble of the byte (R143). -/
def decodePrefixed3 : Nat → Instr
  | 0 => .swap_B
  | 1 => .swap_C
  | 2 => .swap_D
  | 3 => .swap_E
  | 4 => .swap_H
  | 5 => .swap_L
  | 6 => .swap_AtHL
  | 7 => .swap_A
  | 8 => .srl_B
  | 9 => .srl_C
  | 10 => .srl_D
  | 11 => .srl_E
  | 12 => .srl_H
  | 13 => .srl_L
  | 14 => .srl_AtHL
  | _ => .srl_A

/-- Row 0x40 of the prefixed table, by the low nibble of the byte (R143). -/
def decodePrefixed4 : Nat → Instr
  | 0 => .bit_0_B
  | 1 => .bit_0_C
  | 2 => .bit_0_D
  | 3 => .bit_0_E
  | 4 => .bit_0_H
  | 5 => .bit_0_L
  | 6 => .bit_0_AtHL
  | 7 => .bit_0_A
  | 8 => .bit_1_B
  | 9 => .bit_1_C
  | 10 => .bit_1_D
  | 11 => .bit_1_E
  | 12 => .bit_1_H
  | 13 => .bit_1_L
  | 14 => .bit_1_AtHL
  | _ => .bit_1_A

/-- Row 0x50 of the prefixed table, by the low nibble of the byte (R143). -/
def decodePrefixed5 : Nat → Instr
  | 0 => .bit_2_B
  | 1 => .bit_2_C
  | 2 => .bit_2_D
  | 3 => .bit_2_E
  | 4 => .bit_2_H
  | 5 => .bit_2_L
  | 6 => .bit_2_AtHL
  | 7 => .bit_2_A
  | 8 => .bit_3_B
  | 9 => .bit_3_C
  | 10 => .bit_3_D
  | 11 => .bit_3_E
  | 12 => .bit_3_H
  | 13 => .bit_3_L
  | 14 => .bit_3_AtHL
  | _ => .bit_3_A

/-- Row 0x60 of the prefixed table, by the low nibble of the byte (R143). -/
def decodePrefixed6 : Nat → Instr
  | 0 => .bit_4_B
  | 1 => .bit_4_C
  | 2 => .bit_4_D
  | 3 => .bit_4_E
  | 4 => .bit_4_H
  | 5 => .bit_4_L
  | 6 => .bit_4_AtHL
  | 7 => .bit_4_A
  | 8 => .bit_5_B
  | 9 => .bit_5_C
  | 10 => .bit_5_D
  | 11 => .bit_5_E
  | 12 => .bit_5_H
  | 13 => .bit_5_L
  | 14 => .bit_5_AtHL
  | _ => .bit_5_A

/-- Row 0x70 of the prefixed table, by the low nibble of the byte (R143). -/
def decodePrefixed7 : Nat → Instr
  | 0 => .bit_6_B
  | 1 => .bit_6_C
  | 2 => .bit_6_D
  | 3 => .bit_6_E
  | 4 => .bit_6_H
  | 5 => .bit_6_L
  | 6 => .bit_6_AtHL
  | 7 => .bit_6_A
  | 8 => .bit_7_B
  | 9 => .bit_7_C
  | 10 => .bit_7_D
  | 11 => .bit_7_E
  | 12 => .bit_7_H
  | 13 => .bit_7_L
  | 14 => .bit_7_AtHL
  | _ => .bit_7_A

/-- Row 0x80 of the prefixed table, by the low nibble of the byte (R143). -/
def decodePrefixed8 : Nat → Instr
  | 0 => .res_0_B
  | 1 => .res_0_C
  | 2 => .res_0_D
  | 3 => .res_0_E
  | 4 => .res_0_H
  | 5 => .res_0_L
  | 6 => .res_0_AtHL
  | 7 => .res_0_A
  | 8 => .res_1_B
  | 9 => .res_1_C
  | 10 => .res_1_D
  | 11 => .res_1_E
  | 12 => .res_1_H
  | 13 => .res_1_L
  | 14 => .res_1_AtHL
  | _ => .res_1_A

/-- Row 0x90 of the prefixed table, by the low nibble of the byte (R143). -/
def decodePrefixed9 : Nat → Instr
  | 0 => .res_2_B
  | 1 => .res_2_C
  | 2 => .res_2_D
  | 3 => .res_2_E
  | 4 => .res_2_H
  | 5 => .res_2_L
  | 6 => .res_2_AtHL
  | 7 => .res_2_A
  | 8 => .res_3_B
  | 9 => .res_3_C
  | 10 => .res_3_D
  | 11 => .res_3_E
  | 12 => .res_3_H
  | 13 => .res_3_L
  | 14 => .res_3_AtHL
  | _ => .res_3_A

/-- Row 0xA0 of the prefixed table, by the low nibble of the byte (R143). -/
def decodePrefixedA : Nat → Instr
  | 0 => .res_4_B
  | 1 => .res_4_C
  | 2 => .res_4_D
  | 3 => .res_4_E
  | 4 => .res_4_H
  | 5 => .res_4_L
  | 6 => .res_4_AtHL
  | 7 => .res_4_A
  | 8 => .res_5_B
  | 9 => .res_5_C
  | 10 => .res_5_D
  | 11 => .res_5_E
  | 12 => .res_5_H
  | 13 => .res_5_L
  | 14 => .res_5_AtHL
  | _ => .res_5_A

/-- Row 0xB0 of the prefixed table, by the low nibble of the byte (R143). -/
def decodePrefixedB : Nat → Instr
  | 0 => .res_6_B
  | 1 => .res_6_C
  | 2 => .res_6_D
  | 3 => .res_6_E
  | 4 => .res_6_H
  | 5 => .res_6_L
  | 6 => .res_6_AtHL
  | 7 => .res_6_A
  | 8 => .res_7_B
  | 9 => .res_7_C
  | 10 => .res_7_D
  | 11 => .res_7_E
  | 12 => .res_7_H
  | 13 => .res_7_L
  | 14 => .res_7_AtHL
  | _ => .res_7_A

/-- Row 0xC0 of the prefixed table, by the low nibble of the byte (R143). -/
def decodePrefixedC : Nat → Instr
  | 0 => .set_0_B
  | 1 => .set_0_C
  | 2 => .set_0_D
  | 3 => .set_0_E
  | 4 => .set_0_H
  | 5 => .set_0_L
  | 6 => .set_0_AtHL
  | 7 => .set_0_A
  | 8 => .set_1_B
  | 9 => .set_1_C
  | 10 => .set_1_D
  | 11 => .set_1_E
  | 12 => .set_1_H
  | 13 => .set_1_L
  | 14 => .set_1_AtHL
  | _ => .set_1_A

/-- Row 0xD0 of the prefixed table, by the low nibble of the byte (R143). -/
def decodePrefixedD : Nat → Instr
  | 0 => .set_2_B
  | 1 => .set_2_C
  | 2 => .set_2_D
  | 3 => .set_2_E
  | 4 => .set_2_H
  | 5 => .set_2_L
  | 6 => .set_2_AtHL
  | 7 => .set_2_A
  | 8 => .set_3_B
  | 9 => .set_3_C
  | 10 => .set_3_D
  | 11 => .set_3_E
  | 12 => .set_3_H
  | 13 => .set_3_L
  | 14 => .set_3_AtHL
  | _ => .set_3_A

/-- Row 0xE0 of the prefixed table, by the low nibble of the byte (R143). -/
def decodePrefixedE : Nat → Instr
  | 0 => .set_4_B
  | 1 => .set_4_C
  | 2 => .set_4_D
  | 3 => .set_4_E
  | 4 => .set_4_H
  | 5 => .set_4_L
  | 6 => .set_4_AtHL
  | 7 => .set_4_A
  | 8 => .set_5_B
  | 9 => .set_5_C
  | 10 => .set_5_D
  | 11 => .set_5_E
  | 12 => .set_5_H
  | 13 => .set_5_L
  | 14 => .set_5_AtHL
  | _ => .set_5_A

/-- Row 0xF0 of the prefixed table, by the low nibble of the byte (R143). -/
def decodePrefixedF : Nat → Instr
  | 0 => .set_6_B
  | 1 => .set_6_C
  | 2 => .set_6_D
  | 3 => .set_6_E
  | 4 => .set_6_H
  | 5 => .set_6_L
  | 6 => .set_6_AtHL
  | 7 => .set_6_A
  | 8 => .set_7_B
  | 9 => .set_7_C
  | 10 => .set_7_D
  | 11 => .set_7_E
  | 12 => .set_7_H
  | 13 => .set_7_L
  | 14 => .set_7_AtHL
  | _ => .set_7_A

/-- The prefixed table, by the second byte (R136, R143). -/
def decodePrefixed (b1 : Byte) : Instr :=
  let lo := b1.toNat % 16
  match b1.toNat / 16 with
  | 0 => decodePrefixed0 lo
  | 1 => decodePrefixed1 lo
  | 2 => decodePrefixed2 lo
  | 3 => decodePrefixed3 lo
  | 4 => decodePrefixed4 lo
  | 5 => decodePrefixed5 lo
  | 6 => decodePrefixed6 lo
  | 7 => decodePrefixed7 lo
  | 8 => decodePrefixed8 lo
  | 9 => decodePrefixed9 lo
  | 10 => decodePrefixedA lo
  | 11 => decodePrefixedB lo
  | 12 => decodePrefixedC lo
  | 13 => decodePrefixedD lo
  | 14 => decodePrefixedE lo
  | _ => decodePrefixedF lo

/-- Row 0x00 of the direct table, by the low nibble of the byte (R140). -/
def decodeDirect0 (b1 b2 : Byte) : Nat → Instr
  | 0 => .nop
  | 1 => .ld_BC_N16 (make16 b2 b1)
  | 2 => .ld_AtBC_A
  | 3 => .inc_BC
  | 4 => .inc_B
  | 5 => .dec_B
  | 6 => .ld_B_N8 b1
  | 7 => .rlca
  | 8 => .ld_AtN16_SP (make16 b2 b1)
  | 9 => .add_HL_BC
  | 10 => .ld_A_AtBC
  | 11 => .dec_BC
  | 12 => .inc_C
  | 13 => .dec_C
  | 14 => .ld_C_N8 b1
  | _ => .rrca

/-- Row 0x10 of the direct table, by the low nibble of the byte (R140). -/
def decodeDirect1 (b1 b2 : Byte) : Nat → Instr
  | 0 => .stop
  | 1 => .ld_DE_N16 (make16 b2 b1)
  | 2 => .ld_AtDE_A
  | 3 => .inc_DE
  | 4 => .inc_D
  | 5 => .dec_D
  | 6 => .ld_D_N8 b1
  | 7 => .rla
  | 8 => .jr_E8 b1
  | 9 => .add_HL_DE
  | 10 => .ld_A_AtDE
  | 11 => .dec_DE
  | 12 => .inc_E
  | 13 => .dec_E
  | 14 => .ld_E_N8 b1
  | _ => .rra

/-- Row 0x20 of the direct table, by the low nibble of the byte (R140). -/
def decodeDirect2 (b1 b2 : Byte) : Nat → Instr
  | 0 => .jr_NZ_E8 b1
  | 1 => .ld_HL_N16 (make16 b2 b1)
  | 2 => .ld_AtHLInc_A
  | 3 => .inc_HL
  | 4 => .inc_H
  | 5 => .dec_H
  | 6 => .ld_H_N8 b1
  | 7 => .daa
  | 8 => .jr_Z_E8 b1
  | 9 => .add_HL_HL
  | 10 => .ld_A_AtHLInc
  | 11 => .dec_HL
  | 12 => .inc_L
  | 13 => .dec_L
  | 14 => .ld_L_N8 b1
  | _ => .cpl

/-- Row 0x30 of the direct table, by the low nibble of the byte (R140). -/
def decodeDirect3 (b1 b2 : Byte) : Nat → Instr
  | 0 => .jr_NC_E8 b1
  | 1 => .ld_SP_N16 (make16 b2 b1)
  | 2 => .ld_AtHLDec_A
  | 3 => .inc_SP
  | 4 => .inc_AtHL
  | 5 => .dec_AtHL
  | 6 => .ld_AtHL_N8 b1
  | 7 => .scf
  | 8 => .jr_C_E8 b1
  | 9 => .add_HL_SP
  | 10 => .ld_A_AtHLDec
  | 11 => .dec_SP
  | 12 => .inc_A
  | 13 => .dec_A
  | 14 => .ld_A_N8 b1
  | _ => .ccf

/-- Row 0x40 of the direct table, by the low nibble of the byte (R141). -/
def decodeDirect4 (_b1 _b2 : Byte) : Nat → Instr
  | 0 => .ld_B_B
  | 1 => .ld_B_C
  | 2 => .ld_B_D
  | 3 => .ld_B_E
  | 4 => .ld_B_H
  | 5 => .ld_B_L
  | 6 => .ld_B_AtHL
  | 7 => .ld_B_A
  | 8 => .ld_C_B
  | 9 => .ld_C_C
  | 10 => .ld_C_D
  | 11 => .ld_C_E
  | 12 => .ld_C_H
  | 13 => .ld_C_L
  | 14 => .ld_C_AtHL
  | _ => .ld_C_A

/-- Row 0x50 of the direct table, by the low nibble of the byte (R141). -/
def decodeDirect5 (_b1 _b2 : Byte) : Nat → Instr
  | 0 => .ld_D_B
  | 1 => .ld_D_C
  | 2 => .ld_D_D
  | 3 => .ld_D_E
  | 4 => .ld_D_H
  | 5 => .ld_D_L
  | 6 => .ld_D_AtHL
  | 7 => .ld_D_A
  | 8 => .ld_E_B
  | 9 => .ld_E_C
  | 10 => .ld_E_D
  | 11 => .ld_E_E
  | 12 => .ld_E_H
  | 13 => .ld_E_L
  | 14 => .ld_E_AtHL
  | _ => .ld_E_A

/-- Row 0x60 of the direct table, by the low nibble of the byte (R141). -/
def decodeDirect6 (_b1 _b2 : Byte) : Nat → Instr
  | 0 => .ld_H_B
  | 1 => .ld_H_C
  | 2 => .ld_H_D
  | 3 => .ld_H_E
  | 4 => .ld_H_H
  | 5 => .ld_H_L
  | 6 => .ld_H_AtHL
  | 7 => .ld_H_A
  | 8 => .ld_L_B
  | 9 => .ld_L_C
  | 10 => .ld_L_D
  | 11 => .ld_L_E
  | 12 => .ld_L_H
  | 13 => .ld_L_L
  | 14 => .ld_L_AtHL
  | _ => .ld_L_A

/-- Row 0x70 of the direct table, by the low nibble of the byte (R141). -/
def decodeDirect7 (_b1 _b2 : Byte) : Nat → Instr
  | 0 => .ld_AtHL_B
  | 1 => .ld_AtHL_C
  | 2 => .ld_AtHL_D
  | 3 => .ld_AtHL_E
  | 4 => .ld_AtHL_H
  | 5 => .ld_AtHL_L
  | 6 => .halt
  | 7 => .ld_AtHL_A
  | 8 => .ld_A_B
  | 9 => .ld_A_C
  | 10 => .ld_A_D
  | 11 => .ld_A_E
  | 12 => .ld_A_H
  | 13 => .ld_A_L
  | 14 => .ld_A_AtHL
  | _ => .ld_A_A

/-- Row 0x80 of the direct table, by the low nibble of the byte (R141). -/
def decodeDirect8 (_b1 _b2 : Byte) : Nat → Instr
  | 0 => .add_A_B
  | 1 => .add_A_C
  | 2 => .add_A_D
  | 3 => .add_A_E
  | 4 => .add_A_H
  | 5 => .add_A_L
  | 6 => .add_A_AtHL
  | 7 => .add_A_A
  | 8 => .adc_A_B
  | 9 => .adc_A_C
  | 10 => .adc_A_D
  | 11 => .adc_A_E
  | 12 => .adc_A_H
  | 13 => .adc_A_L
  | 14 => .adc_A_AtHL
  | _ => .adc_A_A

/-- Row 0x90 of the direct table, by the low nibble of the byte (R141). -/
def decodeDirect9 (_b1 _b2 : Byte) : Nat → Instr
  | 0 => .sub_A_B
  | 1 => .sub_A_C
  | 2 => .sub_A_D
  | 3 => .sub_A_E
  | 4 => .sub_A_H
  | 5 => .sub_A_L
  | 6 => .sub_A_AtHL
  | 7 => .sub_A_A
  | 8 => .sbc_A_B
  | 9 => .sbc_A_C
  | 10 => .sbc_A_D
  | 11 => .sbc_A_E
  | 12 => .sbc_A_H
  | 13 => .sbc_A_L
  | 14 => .sbc_A_AtHL
  | _ => .sbc_A_A

/-- Row 0xA0 of the direct table, by the low nibble of the byte (R141). -/
def decodeDirectA (_b1 _b2 : Byte) : Nat → Instr
  | 0 => .and_A_B
  | 1 => .and_A_C
  | 2 => .and_A_D
  | 3 => .and_A_E
  | 4 => .and_A_H
  | 5 => .and_A_L
  | 6 => .and_A_AtHL
  | 7 => .and_A_A
  | 8 => .xor_A_B
  | 9 => .xor_A_C
  | 10 => .xor_A_D
  | 11 => .xor_A_E
  | 12 => .xor_A_H
  | 13 => .xor_A_L
  | 14 => .xor_A_AtHL
  | _ => .xor_A_A

/-- Row 0xB0 of the direct table, by the low nibble of the byte (R141). -/
def decodeDirectB (_b1 _b2 : Byte) : Nat → Instr
  | 0 => .or_A_B
  | 1 => .or_A_C
  | 2 => .or_A_D
  | 3 => .or_A_E
  | 4 => .or_A_H
  | 5 => .or_A_L
  | 6 => .or_A_AtHL
  | 7 => .or_A_A
  | 8 => .cp_A_B
  | 9 => .cp_A_C
  | 10 => .cp_A_D
  | 11 => .cp_A_E
  | 12 => .cp_A_H
  | 13 => .cp_A_L
  | 14 => .cp_A_AtHL
  | _ => .cp_A_A

/-- Row 0xC0 of the direct table, by the low nibble of the byte (R142). -/
def decodeDirectC (b1 b2 : Byte) : Nat → Instr
  | 0 => .ret_NZ
  | 1 => .pop_BC
  | 2 => .jp_NZ_N16 (make16 b2 b1)
  | 3 => .jp_N16 (make16 b2 b1)
  | 4 => .call_NZ_N16 (make16 b2 b1)
  | 5 => .push_BC
  | 6 => .add_A_N8 b1
  | 7 => .rst_00
  | 8 => .ret_Z
  | 9 => .ret
  | 10 => .jp_Z_N16 (make16 b2 b1)
  | 11 => decodePrefixed b1
  | 12 => .call_Z_N16 (make16 b2 b1)
  | 13 => .call_N16 (make16 b2 b1)
  | 14 => .adc_A_N8 b1
  | _ => .rst_08

/-- Row 0xD0 of the direct table, by the low nibble of the byte (R142). -/
def decodeDirectD (b1 b2 : Byte) : Nat → Instr
  | 0 => .ret_NC
  | 1 => .pop_DE
  | 2 => .jp_NC_N16 (make16 b2 b1)
  | 3 => .unused_D3
  | 4 => .call_NC_N16 (make16 b2 b1)
  | 5 => .push_DE
  | 6 => .sub_A_N8 b1
  | 7 => .rst_10
  | 8 => .ret_C
  | 9 => .reti
  | 10 => .jp_C_N16 (make16 b2 b1)
  | 11 => .unused_DB
  | 12 => .call_C_N16 (make16 b2 b1)
  | 13 => .unused_DD
  | 14 => .sbc_A_N8 b1
  | _ => .rst_18

/-- Row 0xE0 of the direct table, by the low nibble of the byte (R142). -/
def decodeDirectE (b1 b2 : Byte) : Nat → Instr
  | 0 => .ldh_AtN8_A b1
  | 1 => .pop_HL
  | 2 => .ldh_AtC_A
  | 3 => .unused_E3
  | 4 => .unused_E4
  | 5 => .push_HL
  | 6 => .and_A_N8 b1
  | 7 => .rst_20
  | 8 => .add_SP_E8 b1
  | 9 => .jp_HL
  | 10 => .ld_AtN16_A (make16 b2 b1)
  | 11 => .unused_EB
  | 12 => .unused_EC
  | 13 => .unused_ED
  | 14 => .xor_A_N8 b1
  | _ => .rst_28

/-- Row 0xF0 of the direct table, by the low nibble of the byte (R142). -/
def decodeDirectF (b1 b2 : Byte) : Nat → Instr
  | 0 => .ldh_A_AtN8 b1
  | 1 => .pop_AF
  | 2 => .ldh_A_AtC
  | 3 => .di
  | 4 => .unused_F4
  | 5 => .push_AF
  | 6 => .or_A_N8 b1
  | 7 => .rst_30
  | 8 => .ld_HL_SPE8 b1
  | 9 => .ld_SP_HL
  | 10 => .ld_A_AtN16 (make16 b2 b1)
  | 11 => .ei
  | 12 => .unused_FC
  | 13 => .unused_FD
  | 14 => .cp_A_N8 b1
  | _ => .rst_38

/-- The instruction that begins with the byte `b0` and goes on with `b1` and `b2`, as far as it needs them (R130, R136, R139). -/
def decodeBytes (b0 b1 b2 : Byte) : Instr :=
  let lo := b0.toNat % 16
  match b0.toNat / 16 with
  | 0 => decodeDirect0 b1 b2 lo
  | 1 => decodeDirect1 b1 b2 lo
  | 2 => decodeDirect2 b1 b2 lo
  | 3 => decodeDirect3 b1 b2 lo
  | 4 => decodeDirect4 b1 b2 lo
  | 5 => decodeDirect5 b1 b2 lo
  | 6 => decodeDirect6 b1 b2 lo
  | 7 => decodeDirect7 b1 b2 lo
  | 8 => decodeDirect8 b1 b2 lo
  | 9 => decodeDirect9 b1 b2 lo
  | 10 => decodeDirectA b1 b2 lo
  | 11 => decodeDirectB b1 b2 lo
  | 12 => decodeDirectC b1 b2 lo
  | 13 => decodeDirectD b1 b2 lo
  | 14 => decodeDirectE b1 b2 lo
  | _ => decodeDirectF b1 b2 lo

/-- The length of an instruction in bytes (R130, R139). -/
def Instr.length (i : Instr) : Nat := i.op.descriptor.length

/-- Why a sequence of bytes is not the beginning of an instruction (DESIGN CHOICE, log entry 23). -/
inductive DecodeError where
  /-- There is no byte. -/
  | noByte
  /-- The sequence is shorter than the first byte asks for. -/
  | truncated (b0 : Byte)
deriving DecidableEq, Repr

/-- The instruction at the head of a sequence of bytes, and the bytes after it. Total; the length depends on the first byte alone
(R139), and the only failures are missing bytes. -/
def decode (bytes : List Byte) : Except DecodeError (Instr × List Byte) :=
  match bytes with
  | [] => .error .noByte
  | b0 :: rest =>
    let i := decodeBytes b0 (rest.getD 0 0#8) (rest.getD 1 0#8)
    if i.length ≤ bytes.length then .ok (i, bytes.drop i.length) else .error (.truncated b0)

/-- The bytes of an instruction, byte 0 first (R130, R140 to R143). STOP's second byte is never read (R145); the encoder writes
0x00. -/
def encode : Instr → List Byte
  | .ld_BC_N16 n16 => [0x01#8, lowByte n16, highByte n16]
  | .ld_B_N8 n8 => [0x06#8, n8]
  | .ld_AtN16_SP n16 => [0x08#8, lowByte n16, highByte n16]
  | .ld_C_N8 n8 => [0x0E#8, n8]
  | .ld_DE_N16 n16 => [0x11#8, lowByte n16, highByte n16]
  | .ld_D_N8 n8 => [0x16#8, n8]
  | .jr_E8 e8 => [0x18#8, e8]
  | .ld_E_N8 n8 => [0x1E#8, n8]
  | .jr_NZ_E8 e8 => [0x20#8, e8]
  | .ld_HL_N16 n16 => [0x21#8, lowByte n16, highByte n16]
  | .ld_H_N8 n8 => [0x26#8, n8]
  | .jr_Z_E8 e8 => [0x28#8, e8]
  | .ld_L_N8 n8 => [0x2E#8, n8]
  | .jr_NC_E8 e8 => [0x30#8, e8]
  | .ld_SP_N16 n16 => [0x31#8, lowByte n16, highByte n16]
  | .ld_AtHL_N8 n8 => [0x36#8, n8]
  | .jr_C_E8 e8 => [0x38#8, e8]
  | .ld_A_N8 n8 => [0x3E#8, n8]
  | .jp_NZ_N16 n16 => [0xC2#8, lowByte n16, highByte n16]
  | .jp_N16 n16 => [0xC3#8, lowByte n16, highByte n16]
  | .call_NZ_N16 n16 => [0xC4#8, lowByte n16, highByte n16]
  | .add_A_N8 n8 => [0xC6#8, n8]
  | .jp_Z_N16 n16 => [0xCA#8, lowByte n16, highByte n16]
  | .prefix_CB op2 => [0xCB#8, op2]
  | .call_Z_N16 n16 => [0xCC#8, lowByte n16, highByte n16]
  | .call_N16 n16 => [0xCD#8, lowByte n16, highByte n16]
  | .adc_A_N8 n8 => [0xCE#8, n8]
  | .jp_NC_N16 n16 => [0xD2#8, lowByte n16, highByte n16]
  | .call_NC_N16 n16 => [0xD4#8, lowByte n16, highByte n16]
  | .sub_A_N8 n8 => [0xD6#8, n8]
  | .jp_C_N16 n16 => [0xDA#8, lowByte n16, highByte n16]
  | .call_C_N16 n16 => [0xDC#8, lowByte n16, highByte n16]
  | .sbc_A_N8 n8 => [0xDE#8, n8]
  | .ldh_AtN8_A n8 => [0xE0#8, n8]
  | .and_A_N8 n8 => [0xE6#8, n8]
  | .add_SP_E8 e8 => [0xE8#8, e8]
  | .ld_AtN16_A n16 => [0xEA#8, lowByte n16, highByte n16]
  | .xor_A_N8 n8 => [0xEE#8, n8]
  | .ldh_A_AtN8 n8 => [0xF0#8, n8]
  | .or_A_N8 n8 => [0xF6#8, n8]
  | .ld_HL_SPE8 e8 => [0xF8#8, e8]
  | .ld_A_AtN16 n16 => [0xFA#8, lowByte n16, highByte n16]
  | .cp_A_N8 n8 => [0xFE#8, n8]
  | .nop => [0x00#8]
  | .ld_AtBC_A => [0x02#8]
  | .inc_BC => [0x03#8]
  | .inc_B => [0x04#8]
  | .dec_B => [0x05#8]
  | .rlca => [0x07#8]
  | .add_HL_BC => [0x09#8]
  | .ld_A_AtBC => [0x0A#8]
  | .dec_BC => [0x0B#8]
  | .inc_C => [0x0C#8]
  | .dec_C => [0x0D#8]
  | .rrca => [0x0F#8]
  | .stop => [0x10#8, 0x00#8]
  | .ld_AtDE_A => [0x12#8]
  | .inc_DE => [0x13#8]
  | .inc_D => [0x14#8]
  | .dec_D => [0x15#8]
  | .rla => [0x17#8]
  | .add_HL_DE => [0x19#8]
  | .ld_A_AtDE => [0x1A#8]
  | .dec_DE => [0x1B#8]
  | .inc_E => [0x1C#8]
  | .dec_E => [0x1D#8]
  | .rra => [0x1F#8]
  | .ld_AtHLInc_A => [0x22#8]
  | .inc_HL => [0x23#8]
  | .inc_H => [0x24#8]
  | .dec_H => [0x25#8]
  | .daa => [0x27#8]
  | .add_HL_HL => [0x29#8]
  | .ld_A_AtHLInc => [0x2A#8]
  | .dec_HL => [0x2B#8]
  | .inc_L => [0x2C#8]
  | .dec_L => [0x2D#8]
  | .cpl => [0x2F#8]
  | .ld_AtHLDec_A => [0x32#8]
  | .inc_SP => [0x33#8]
  | .inc_AtHL => [0x34#8]
  | .dec_AtHL => [0x35#8]
  | .scf => [0x37#8]
  | .add_HL_SP => [0x39#8]
  | .ld_A_AtHLDec => [0x3A#8]
  | .dec_SP => [0x3B#8]
  | .inc_A => [0x3C#8]
  | .dec_A => [0x3D#8]
  | .ccf => [0x3F#8]
  | .ld_B_B => [0x40#8]
  | .ld_B_C => [0x41#8]
  | .ld_B_D => [0x42#8]
  | .ld_B_E => [0x43#8]
  | .ld_B_H => [0x44#8]
  | .ld_B_L => [0x45#8]
  | .ld_B_AtHL => [0x46#8]
  | .ld_B_A => [0x47#8]
  | .ld_C_B => [0x48#8]
  | .ld_C_C => [0x49#8]
  | .ld_C_D => [0x4A#8]
  | .ld_C_E => [0x4B#8]
  | .ld_C_H => [0x4C#8]
  | .ld_C_L => [0x4D#8]
  | .ld_C_AtHL => [0x4E#8]
  | .ld_C_A => [0x4F#8]
  | .ld_D_B => [0x50#8]
  | .ld_D_C => [0x51#8]
  | .ld_D_D => [0x52#8]
  | .ld_D_E => [0x53#8]
  | .ld_D_H => [0x54#8]
  | .ld_D_L => [0x55#8]
  | .ld_D_AtHL => [0x56#8]
  | .ld_D_A => [0x57#8]
  | .ld_E_B => [0x58#8]
  | .ld_E_C => [0x59#8]
  | .ld_E_D => [0x5A#8]
  | .ld_E_E => [0x5B#8]
  | .ld_E_H => [0x5C#8]
  | .ld_E_L => [0x5D#8]
  | .ld_E_AtHL => [0x5E#8]
  | .ld_E_A => [0x5F#8]
  | .ld_H_B => [0x60#8]
  | .ld_H_C => [0x61#8]
  | .ld_H_D => [0x62#8]
  | .ld_H_E => [0x63#8]
  | .ld_H_H => [0x64#8]
  | .ld_H_L => [0x65#8]
  | .ld_H_AtHL => [0x66#8]
  | .ld_H_A => [0x67#8]
  | .ld_L_B => [0x68#8]
  | .ld_L_C => [0x69#8]
  | .ld_L_D => [0x6A#8]
  | .ld_L_E => [0x6B#8]
  | .ld_L_H => [0x6C#8]
  | .ld_L_L => [0x6D#8]
  | .ld_L_AtHL => [0x6E#8]
  | .ld_L_A => [0x6F#8]
  | .ld_AtHL_B => [0x70#8]
  | .ld_AtHL_C => [0x71#8]
  | .ld_AtHL_D => [0x72#8]
  | .ld_AtHL_E => [0x73#8]
  | .ld_AtHL_H => [0x74#8]
  | .ld_AtHL_L => [0x75#8]
  | .halt => [0x76#8]
  | .ld_AtHL_A => [0x77#8]
  | .ld_A_B => [0x78#8]
  | .ld_A_C => [0x79#8]
  | .ld_A_D => [0x7A#8]
  | .ld_A_E => [0x7B#8]
  | .ld_A_H => [0x7C#8]
  | .ld_A_L => [0x7D#8]
  | .ld_A_AtHL => [0x7E#8]
  | .ld_A_A => [0x7F#8]
  | .add_A_B => [0x80#8]
  | .add_A_C => [0x81#8]
  | .add_A_D => [0x82#8]
  | .add_A_E => [0x83#8]
  | .add_A_H => [0x84#8]
  | .add_A_L => [0x85#8]
  | .add_A_AtHL => [0x86#8]
  | .add_A_A => [0x87#8]
  | .adc_A_B => [0x88#8]
  | .adc_A_C => [0x89#8]
  | .adc_A_D => [0x8A#8]
  | .adc_A_E => [0x8B#8]
  | .adc_A_H => [0x8C#8]
  | .adc_A_L => [0x8D#8]
  | .adc_A_AtHL => [0x8E#8]
  | .adc_A_A => [0x8F#8]
  | .sub_A_B => [0x90#8]
  | .sub_A_C => [0x91#8]
  | .sub_A_D => [0x92#8]
  | .sub_A_E => [0x93#8]
  | .sub_A_H => [0x94#8]
  | .sub_A_L => [0x95#8]
  | .sub_A_AtHL => [0x96#8]
  | .sub_A_A => [0x97#8]
  | .sbc_A_B => [0x98#8]
  | .sbc_A_C => [0x99#8]
  | .sbc_A_D => [0x9A#8]
  | .sbc_A_E => [0x9B#8]
  | .sbc_A_H => [0x9C#8]
  | .sbc_A_L => [0x9D#8]
  | .sbc_A_AtHL => [0x9E#8]
  | .sbc_A_A => [0x9F#8]
  | .and_A_B => [0xA0#8]
  | .and_A_C => [0xA1#8]
  | .and_A_D => [0xA2#8]
  | .and_A_E => [0xA3#8]
  | .and_A_H => [0xA4#8]
  | .and_A_L => [0xA5#8]
  | .and_A_AtHL => [0xA6#8]
  | .and_A_A => [0xA7#8]
  | .xor_A_B => [0xA8#8]
  | .xor_A_C => [0xA9#8]
  | .xor_A_D => [0xAA#8]
  | .xor_A_E => [0xAB#8]
  | .xor_A_H => [0xAC#8]
  | .xor_A_L => [0xAD#8]
  | .xor_A_AtHL => [0xAE#8]
  | .xor_A_A => [0xAF#8]
  | .or_A_B => [0xB0#8]
  | .or_A_C => [0xB1#8]
  | .or_A_D => [0xB2#8]
  | .or_A_E => [0xB3#8]
  | .or_A_H => [0xB4#8]
  | .or_A_L => [0xB5#8]
  | .or_A_AtHL => [0xB6#8]
  | .or_A_A => [0xB7#8]
  | .cp_A_B => [0xB8#8]
  | .cp_A_C => [0xB9#8]
  | .cp_A_D => [0xBA#8]
  | .cp_A_E => [0xBB#8]
  | .cp_A_H => [0xBC#8]
  | .cp_A_L => [0xBD#8]
  | .cp_A_AtHL => [0xBE#8]
  | .cp_A_A => [0xBF#8]
  | .ret_NZ => [0xC0#8]
  | .pop_BC => [0xC1#8]
  | .push_BC => [0xC5#8]
  | .rst_00 => [0xC7#8]
  | .ret_Z => [0xC8#8]
  | .ret => [0xC9#8]
  | .rst_08 => [0xCF#8]
  | .ret_NC => [0xD0#8]
  | .pop_DE => [0xD1#8]
  | .unused_D3 => [0xD3#8]
  | .push_DE => [0xD5#8]
  | .rst_10 => [0xD7#8]
  | .ret_C => [0xD8#8]
  | .reti => [0xD9#8]
  | .unused_DB => [0xDB#8]
  | .unused_DD => [0xDD#8]
  | .rst_18 => [0xDF#8]
  | .pop_HL => [0xE1#8]
  | .ldh_AtC_A => [0xE2#8]
  | .unused_E3 => [0xE3#8]
  | .unused_E4 => [0xE4#8]
  | .push_HL => [0xE5#8]
  | .rst_20 => [0xE7#8]
  | .jp_HL => [0xE9#8]
  | .unused_EB => [0xEB#8]
  | .unused_EC => [0xEC#8]
  | .unused_ED => [0xED#8]
  | .rst_28 => [0xEF#8]
  | .pop_AF => [0xF1#8]
  | .ldh_A_AtC => [0xF2#8]
  | .di => [0xF3#8]
  | .unused_F4 => [0xF4#8]
  | .push_AF => [0xF5#8]
  | .rst_30 => [0xF7#8]
  | .ld_SP_HL => [0xF9#8]
  | .ei => [0xFB#8]
  | .unused_FC => [0xFC#8]
  | .unused_FD => [0xFD#8]
  | .rst_38 => [0xFF#8]
  | .rlc_B => [0xCB#8, 0x00#8]
  | .rlc_C => [0xCB#8, 0x01#8]
  | .rlc_D => [0xCB#8, 0x02#8]
  | .rlc_E => [0xCB#8, 0x03#8]
  | .rlc_H => [0xCB#8, 0x04#8]
  | .rlc_L => [0xCB#8, 0x05#8]
  | .rlc_AtHL => [0xCB#8, 0x06#8]
  | .rlc_A => [0xCB#8, 0x07#8]
  | .rrc_B => [0xCB#8, 0x08#8]
  | .rrc_C => [0xCB#8, 0x09#8]
  | .rrc_D => [0xCB#8, 0x0A#8]
  | .rrc_E => [0xCB#8, 0x0B#8]
  | .rrc_H => [0xCB#8, 0x0C#8]
  | .rrc_L => [0xCB#8, 0x0D#8]
  | .rrc_AtHL => [0xCB#8, 0x0E#8]
  | .rrc_A => [0xCB#8, 0x0F#8]
  | .rl_B => [0xCB#8, 0x10#8]
  | .rl_C => [0xCB#8, 0x11#8]
  | .rl_D => [0xCB#8, 0x12#8]
  | .rl_E => [0xCB#8, 0x13#8]
  | .rl_H => [0xCB#8, 0x14#8]
  | .rl_L => [0xCB#8, 0x15#8]
  | .rl_AtHL => [0xCB#8, 0x16#8]
  | .rl_A => [0xCB#8, 0x17#8]
  | .rr_B => [0xCB#8, 0x18#8]
  | .rr_C => [0xCB#8, 0x19#8]
  | .rr_D => [0xCB#8, 0x1A#8]
  | .rr_E => [0xCB#8, 0x1B#8]
  | .rr_H => [0xCB#8, 0x1C#8]
  | .rr_L => [0xCB#8, 0x1D#8]
  | .rr_AtHL => [0xCB#8, 0x1E#8]
  | .rr_A => [0xCB#8, 0x1F#8]
  | .sla_B => [0xCB#8, 0x20#8]
  | .sla_C => [0xCB#8, 0x21#8]
  | .sla_D => [0xCB#8, 0x22#8]
  | .sla_E => [0xCB#8, 0x23#8]
  | .sla_H => [0xCB#8, 0x24#8]
  | .sla_L => [0xCB#8, 0x25#8]
  | .sla_AtHL => [0xCB#8, 0x26#8]
  | .sla_A => [0xCB#8, 0x27#8]
  | .sra_B => [0xCB#8, 0x28#8]
  | .sra_C => [0xCB#8, 0x29#8]
  | .sra_D => [0xCB#8, 0x2A#8]
  | .sra_E => [0xCB#8, 0x2B#8]
  | .sra_H => [0xCB#8, 0x2C#8]
  | .sra_L => [0xCB#8, 0x2D#8]
  | .sra_AtHL => [0xCB#8, 0x2E#8]
  | .sra_A => [0xCB#8, 0x2F#8]
  | .swap_B => [0xCB#8, 0x30#8]
  | .swap_C => [0xCB#8, 0x31#8]
  | .swap_D => [0xCB#8, 0x32#8]
  | .swap_E => [0xCB#8, 0x33#8]
  | .swap_H => [0xCB#8, 0x34#8]
  | .swap_L => [0xCB#8, 0x35#8]
  | .swap_AtHL => [0xCB#8, 0x36#8]
  | .swap_A => [0xCB#8, 0x37#8]
  | .srl_B => [0xCB#8, 0x38#8]
  | .srl_C => [0xCB#8, 0x39#8]
  | .srl_D => [0xCB#8, 0x3A#8]
  | .srl_E => [0xCB#8, 0x3B#8]
  | .srl_H => [0xCB#8, 0x3C#8]
  | .srl_L => [0xCB#8, 0x3D#8]
  | .srl_AtHL => [0xCB#8, 0x3E#8]
  | .srl_A => [0xCB#8, 0x3F#8]
  | .bit_0_B => [0xCB#8, 0x40#8]
  | .bit_0_C => [0xCB#8, 0x41#8]
  | .bit_0_D => [0xCB#8, 0x42#8]
  | .bit_0_E => [0xCB#8, 0x43#8]
  | .bit_0_H => [0xCB#8, 0x44#8]
  | .bit_0_L => [0xCB#8, 0x45#8]
  | .bit_0_AtHL => [0xCB#8, 0x46#8]
  | .bit_0_A => [0xCB#8, 0x47#8]
  | .bit_1_B => [0xCB#8, 0x48#8]
  | .bit_1_C => [0xCB#8, 0x49#8]
  | .bit_1_D => [0xCB#8, 0x4A#8]
  | .bit_1_E => [0xCB#8, 0x4B#8]
  | .bit_1_H => [0xCB#8, 0x4C#8]
  | .bit_1_L => [0xCB#8, 0x4D#8]
  | .bit_1_AtHL => [0xCB#8, 0x4E#8]
  | .bit_1_A => [0xCB#8, 0x4F#8]
  | .bit_2_B => [0xCB#8, 0x50#8]
  | .bit_2_C => [0xCB#8, 0x51#8]
  | .bit_2_D => [0xCB#8, 0x52#8]
  | .bit_2_E => [0xCB#8, 0x53#8]
  | .bit_2_H => [0xCB#8, 0x54#8]
  | .bit_2_L => [0xCB#8, 0x55#8]
  | .bit_2_AtHL => [0xCB#8, 0x56#8]
  | .bit_2_A => [0xCB#8, 0x57#8]
  | .bit_3_B => [0xCB#8, 0x58#8]
  | .bit_3_C => [0xCB#8, 0x59#8]
  | .bit_3_D => [0xCB#8, 0x5A#8]
  | .bit_3_E => [0xCB#8, 0x5B#8]
  | .bit_3_H => [0xCB#8, 0x5C#8]
  | .bit_3_L => [0xCB#8, 0x5D#8]
  | .bit_3_AtHL => [0xCB#8, 0x5E#8]
  | .bit_3_A => [0xCB#8, 0x5F#8]
  | .bit_4_B => [0xCB#8, 0x60#8]
  | .bit_4_C => [0xCB#8, 0x61#8]
  | .bit_4_D => [0xCB#8, 0x62#8]
  | .bit_4_E => [0xCB#8, 0x63#8]
  | .bit_4_H => [0xCB#8, 0x64#8]
  | .bit_4_L => [0xCB#8, 0x65#8]
  | .bit_4_AtHL => [0xCB#8, 0x66#8]
  | .bit_4_A => [0xCB#8, 0x67#8]
  | .bit_5_B => [0xCB#8, 0x68#8]
  | .bit_5_C => [0xCB#8, 0x69#8]
  | .bit_5_D => [0xCB#8, 0x6A#8]
  | .bit_5_E => [0xCB#8, 0x6B#8]
  | .bit_5_H => [0xCB#8, 0x6C#8]
  | .bit_5_L => [0xCB#8, 0x6D#8]
  | .bit_5_AtHL => [0xCB#8, 0x6E#8]
  | .bit_5_A => [0xCB#8, 0x6F#8]
  | .bit_6_B => [0xCB#8, 0x70#8]
  | .bit_6_C => [0xCB#8, 0x71#8]
  | .bit_6_D => [0xCB#8, 0x72#8]
  | .bit_6_E => [0xCB#8, 0x73#8]
  | .bit_6_H => [0xCB#8, 0x74#8]
  | .bit_6_L => [0xCB#8, 0x75#8]
  | .bit_6_AtHL => [0xCB#8, 0x76#8]
  | .bit_6_A => [0xCB#8, 0x77#8]
  | .bit_7_B => [0xCB#8, 0x78#8]
  | .bit_7_C => [0xCB#8, 0x79#8]
  | .bit_7_D => [0xCB#8, 0x7A#8]
  | .bit_7_E => [0xCB#8, 0x7B#8]
  | .bit_7_H => [0xCB#8, 0x7C#8]
  | .bit_7_L => [0xCB#8, 0x7D#8]
  | .bit_7_AtHL => [0xCB#8, 0x7E#8]
  | .bit_7_A => [0xCB#8, 0x7F#8]
  | .res_0_B => [0xCB#8, 0x80#8]
  | .res_0_C => [0xCB#8, 0x81#8]
  | .res_0_D => [0xCB#8, 0x82#8]
  | .res_0_E => [0xCB#8, 0x83#8]
  | .res_0_H => [0xCB#8, 0x84#8]
  | .res_0_L => [0xCB#8, 0x85#8]
  | .res_0_AtHL => [0xCB#8, 0x86#8]
  | .res_0_A => [0xCB#8, 0x87#8]
  | .res_1_B => [0xCB#8, 0x88#8]
  | .res_1_C => [0xCB#8, 0x89#8]
  | .res_1_D => [0xCB#8, 0x8A#8]
  | .res_1_E => [0xCB#8, 0x8B#8]
  | .res_1_H => [0xCB#8, 0x8C#8]
  | .res_1_L => [0xCB#8, 0x8D#8]
  | .res_1_AtHL => [0xCB#8, 0x8E#8]
  | .res_1_A => [0xCB#8, 0x8F#8]
  | .res_2_B => [0xCB#8, 0x90#8]
  | .res_2_C => [0xCB#8, 0x91#8]
  | .res_2_D => [0xCB#8, 0x92#8]
  | .res_2_E => [0xCB#8, 0x93#8]
  | .res_2_H => [0xCB#8, 0x94#8]
  | .res_2_L => [0xCB#8, 0x95#8]
  | .res_2_AtHL => [0xCB#8, 0x96#8]
  | .res_2_A => [0xCB#8, 0x97#8]
  | .res_3_B => [0xCB#8, 0x98#8]
  | .res_3_C => [0xCB#8, 0x99#8]
  | .res_3_D => [0xCB#8, 0x9A#8]
  | .res_3_E => [0xCB#8, 0x9B#8]
  | .res_3_H => [0xCB#8, 0x9C#8]
  | .res_3_L => [0xCB#8, 0x9D#8]
  | .res_3_AtHL => [0xCB#8, 0x9E#8]
  | .res_3_A => [0xCB#8, 0x9F#8]
  | .res_4_B => [0xCB#8, 0xA0#8]
  | .res_4_C => [0xCB#8, 0xA1#8]
  | .res_4_D => [0xCB#8, 0xA2#8]
  | .res_4_E => [0xCB#8, 0xA3#8]
  | .res_4_H => [0xCB#8, 0xA4#8]
  | .res_4_L => [0xCB#8, 0xA5#8]
  | .res_4_AtHL => [0xCB#8, 0xA6#8]
  | .res_4_A => [0xCB#8, 0xA7#8]
  | .res_5_B => [0xCB#8, 0xA8#8]
  | .res_5_C => [0xCB#8, 0xA9#8]
  | .res_5_D => [0xCB#8, 0xAA#8]
  | .res_5_E => [0xCB#8, 0xAB#8]
  | .res_5_H => [0xCB#8, 0xAC#8]
  | .res_5_L => [0xCB#8, 0xAD#8]
  | .res_5_AtHL => [0xCB#8, 0xAE#8]
  | .res_5_A => [0xCB#8, 0xAF#8]
  | .res_6_B => [0xCB#8, 0xB0#8]
  | .res_6_C => [0xCB#8, 0xB1#8]
  | .res_6_D => [0xCB#8, 0xB2#8]
  | .res_6_E => [0xCB#8, 0xB3#8]
  | .res_6_H => [0xCB#8, 0xB4#8]
  | .res_6_L => [0xCB#8, 0xB5#8]
  | .res_6_AtHL => [0xCB#8, 0xB6#8]
  | .res_6_A => [0xCB#8, 0xB7#8]
  | .res_7_B => [0xCB#8, 0xB8#8]
  | .res_7_C => [0xCB#8, 0xB9#8]
  | .res_7_D => [0xCB#8, 0xBA#8]
  | .res_7_E => [0xCB#8, 0xBB#8]
  | .res_7_H => [0xCB#8, 0xBC#8]
  | .res_7_L => [0xCB#8, 0xBD#8]
  | .res_7_AtHL => [0xCB#8, 0xBE#8]
  | .res_7_A => [0xCB#8, 0xBF#8]
  | .set_0_B => [0xCB#8, 0xC0#8]
  | .set_0_C => [0xCB#8, 0xC1#8]
  | .set_0_D => [0xCB#8, 0xC2#8]
  | .set_0_E => [0xCB#8, 0xC3#8]
  | .set_0_H => [0xCB#8, 0xC4#8]
  | .set_0_L => [0xCB#8, 0xC5#8]
  | .set_0_AtHL => [0xCB#8, 0xC6#8]
  | .set_0_A => [0xCB#8, 0xC7#8]
  | .set_1_B => [0xCB#8, 0xC8#8]
  | .set_1_C => [0xCB#8, 0xC9#8]
  | .set_1_D => [0xCB#8, 0xCA#8]
  | .set_1_E => [0xCB#8, 0xCB#8]
  | .set_1_H => [0xCB#8, 0xCC#8]
  | .set_1_L => [0xCB#8, 0xCD#8]
  | .set_1_AtHL => [0xCB#8, 0xCE#8]
  | .set_1_A => [0xCB#8, 0xCF#8]
  | .set_2_B => [0xCB#8, 0xD0#8]
  | .set_2_C => [0xCB#8, 0xD1#8]
  | .set_2_D => [0xCB#8, 0xD2#8]
  | .set_2_E => [0xCB#8, 0xD3#8]
  | .set_2_H => [0xCB#8, 0xD4#8]
  | .set_2_L => [0xCB#8, 0xD5#8]
  | .set_2_AtHL => [0xCB#8, 0xD6#8]
  | .set_2_A => [0xCB#8, 0xD7#8]
  | .set_3_B => [0xCB#8, 0xD8#8]
  | .set_3_C => [0xCB#8, 0xD9#8]
  | .set_3_D => [0xCB#8, 0xDA#8]
  | .set_3_E => [0xCB#8, 0xDB#8]
  | .set_3_H => [0xCB#8, 0xDC#8]
  | .set_3_L => [0xCB#8, 0xDD#8]
  | .set_3_AtHL => [0xCB#8, 0xDE#8]
  | .set_3_A => [0xCB#8, 0xDF#8]
  | .set_4_B => [0xCB#8, 0xE0#8]
  | .set_4_C => [0xCB#8, 0xE1#8]
  | .set_4_D => [0xCB#8, 0xE2#8]
  | .set_4_E => [0xCB#8, 0xE3#8]
  | .set_4_H => [0xCB#8, 0xE4#8]
  | .set_4_L => [0xCB#8, 0xE5#8]
  | .set_4_AtHL => [0xCB#8, 0xE6#8]
  | .set_4_A => [0xCB#8, 0xE7#8]
  | .set_5_B => [0xCB#8, 0xE8#8]
  | .set_5_C => [0xCB#8, 0xE9#8]
  | .set_5_D => [0xCB#8, 0xEA#8]
  | .set_5_E => [0xCB#8, 0xEB#8]
  | .set_5_H => [0xCB#8, 0xEC#8]
  | .set_5_L => [0xCB#8, 0xED#8]
  | .set_5_AtHL => [0xCB#8, 0xEE#8]
  | .set_5_A => [0xCB#8, 0xEF#8]
  | .set_6_B => [0xCB#8, 0xF0#8]
  | .set_6_C => [0xCB#8, 0xF1#8]
  | .set_6_D => [0xCB#8, 0xF2#8]
  | .set_6_E => [0xCB#8, 0xF3#8]
  | .set_6_H => [0xCB#8, 0xF4#8]
  | .set_6_L => [0xCB#8, 0xF5#8]
  | .set_6_AtHL => [0xCB#8, 0xF6#8]
  | .set_6_A => [0xCB#8, 0xF7#8]
  | .set_7_B => [0xCB#8, 0xF8#8]
  | .set_7_C => [0xCB#8, 0xF9#8]
  | .set_7_D => [0xCB#8, 0xFA#8]
  | .set_7_E => [0xCB#8, 0xFB#8]
  | .set_7_H => [0xCB#8, 0xFC#8]
  | .set_7_L => [0xCB#8, 0xFD#8]
  | .set_7_AtHL => [0xCB#8, 0xFE#8]
  | .set_7_A => [0xCB#8, 0xFF#8]

/-- An opcode byte from its fields x, y, z (R131). -/
def byteXYZ (x y z : Nat) : Byte := BitVec.ofNat 8 (64 * x + 8 * y + z)

/-- An opcode byte from its fields x, p, q, z (R131). -/
def byteXPQZ (x p q z : Nat) : Byte := byteXYZ x (2 * p + q) z

/-- A prefixed instruction's bytes from the fields of its second byte (R137). -/
def bytesCb (x y z : Nat) : List Byte := [0xCB#8, byteXYZ x y z]

/-- A direct opcode with a 16-bit immediate: the low byte first (R130). -/
def bytesN16 (op : Byte) (n16 : Addr) : List Byte := [op, lowByte n16, highByte n16]

/-- The bytes of an operation, from the FIELDS of R131 to R134 and R137 as R140 to R143 place them: the second account of the
encoding, which does not go through the table's opcodes. -/
def Op.encode : Op → List Byte
  | .nop => [byteXYZ 0 0 0]
  | .halt => [byteXYZ 1 6 6]
  | .stop => [byteXYZ 0 2 0, 0#8]
  | .di => [byteXYZ 3 6 3]
  | .ei => [byteXYZ 3 7 3]
  | .unused b => [b]
  | .ldRR dst src => [byteXYZ 1 dst.code src.code]
  | .ldRN dst n8 => [byteXYZ 0 dst.code 6, n8]
  | .ldRHl dst => [byteXYZ 1 dst.code 6]
  | .ldHlR r => [byteXYZ 1 6 r.code]
  | .ldHlN n8 => [byteXYZ 0 6 6, n8]
  | .ldAMem m => [byteXPQZ 0 m.code 1 2]
  | .ldMemA m => [byteXPQZ 0 m.code 0 2]
  | .ldhAN n8 => [byteXYZ 3 6 0, n8]
  | .ldhNA n8 => [byteXYZ 3 4 0, n8]
  | .ldhAC => [byteXYZ 3 6 2]
  | .ldhCA => [byteXYZ 3 4 2]
  | .ldANn n16 => bytesN16 (byteXYZ 3 7 2) n16
  | .ldNnA n16 => bytesN16 (byteXYZ 3 5 2) n16
  | .ldPairN p n16 => bytesN16 (byteXPQZ 0 p.code 0 1) n16
  | .ldSpHl => [byteXPQZ 3 3 1 1]
  | .ldNnSp n16 => bytesN16 (byteXYZ 0 1 0) n16
  | .push p => [byteXPQZ 3 p.code 0 5]
  | .pop p => [byteXPQZ 3 p.code 0 1]
  | .aluR o r => [byteXYZ 2 o.code r.code]
  | .aluN o n8 => [byteXYZ 3 o.code 6, n8]
  | .aluHl o => [byteXYZ 2 o.code 6]
  | .incR r => [byteXYZ 0 r.code 4]
  | .incHl => [byteXYZ 0 6 4]
  | .decR r => [byteXYZ 0 r.code 5]
  | .decHl => [byteXYZ 0 6 5]
  | .daa => [byteXYZ 0 4 7]
  | .cpl => [byteXYZ 0 5 7]
  | .scf => [byteXYZ 0 6 7]
  | .ccf => [byteXYZ 0 7 7]
  | .addHl p => [byteXPQZ 0 p.code 1 1]
  | .incPair p => [byteXPQZ 0 p.code 0 3]
  | .decPair p => [byteXPQZ 0 p.code 1 3]
  | .addSp e8 => [byteXYZ 3 5 0, e8]
  | .ldHlSp e8 => [byteXYZ 3 7 0, e8]
  | .rlca => [byteXYZ 0 0 7]
  | .rrca => [byteXYZ 0 1 7]
  | .rla => [byteXYZ 0 2 7]
  | .rra => [byteXYZ 0 3 7]
  | .shiftR o r => bytesCb 0 o.code r.code
  | .shiftHl o => bytesCb 0 o.code 6
  | .bitR b r => bytesCb 1 b.val r.code
  | .bitHl b => bytesCb 1 b.val 6
  | .resR b r => bytesCb 2 b.val r.code
  | .resHl b => bytesCb 2 b.val 6
  | .setR b r => bytesCb 3 b.val r.code
  | .setHl b => bytesCb 3 b.val 6
  | .jp n16 => bytesN16 (byteXYZ 3 0 3) n16
  | .jpCc cc n16 => bytesN16 (byteXYZ 3 cc.code 2) n16
  | .jpHl => [byteXPQZ 3 2 1 1]
  | .jr e8 => [byteXYZ 0 3 0, e8]
  | .jrCc cc e8 => [byteXYZ 0 (4 + cc.code) 0, e8]
  | .call n16 => bytesN16 (byteXPQZ 3 0 1 5) n16
  | .callCc cc n16 => bytesN16 (byteXYZ 3 cc.code 4) n16
  | .ret => [byteXPQZ 3 0 1 1]
  | .retCc cc => [byteXYZ 3 cc.code 0]
  | .reti => [byteXPQZ 3 1 1 1]
  | .rst y => [byteXYZ 3 y.val 7]

/-- The number of an operation's row: its byte in the direct table, 256 and its second byte in the prefixed one. -/
def Op.row (o : Op) : Nat :=
  match o.encode with
  | [] => 0
  | [b0] => b0.toNat
  | b0 :: b1 :: _ => if b0 = 0xCB#8 then 256 + b1.toNat else b0.toNat

/-- The three bytes, the first at the lowest address, of an instruction whose bits the opcode table numbers as `w`. The table
numbers a prefixed row as `byte 0 * 256 + byte 1` (R157), so its 16-bit words begin with 0xCB at the top; any other word has
its first byte at the bottom (log entry 12). -/
def tableBytes (nbits w : Nat) : Byte × Byte × Byte :=
  if nbits = 16 ∧ w / 256 = 0xCB then (0xCB#8, BitVec.ofNat 8 w, 0#8)
  else (BitVec.ofNat 8 w, BitVec.ofNat 8 (w / 256), BitVec.ofNat 8 (w / 65536))

/-- The instruction the decoder reads from a word of the opcode table. -/
def decodeTableWord (nbits w : Nat) : Option Instr :=
  let t := tableBytes nbits w
  match decode [t.1, t.2.1, t.2.2] with
  | .ok (i, _) => some i
  | .error _ => none

end Sys2Proof
end

