-- ==== Sys2Proof/Machine/Alu.lean ====
section
/-! DEFINITION. The ALU (`40_bitops_alu.md` R190 to R208): pure functions that return a value and the four flags. Each follows
its rule's integer formula; a value is narrowed once, at the end. -/

namespace Sys2Proof

/-- The four flags Z, N, H, C of an ALU result (R190). -/
structure Flags where
  z : Bool
  n : Bool
  h : Bool
  c : Bool
deriving DecidableEq, Repr

/-- An ALU result `(v, ZNHC)` (`00_scope.md` R14). -/
structure AluResult (w : Nat) where
  v : BitVec w
  f : Flags
deriving DecidableEq, Repr

/-- The rotation directions of R203. -/
inductive Dir where
  | left | right
deriving DecidableEq, Repr

namespace Alu

/-- A condition as a bit of a mask. -/
def bitIf (b : Bool) (i : Nat) : Byte := if b then 1#8 <<< i else 0#8

/-- `maskZNHC(z, n, h, c)`: Z at bit 7, N at 6, H at 5, C at 4 (R191, `10_state.md` R23). -/
def maskZNHC (f : Flags) : Byte := bitIf f.z 7 ||| bitIf f.n 6 ||| bitIf f.h 5 ||| bitIf f.c 4

/-- `pack`: the value shifted left 8 with the flags at bits 7 to 4 (R190). -/
def pack {w : Nat} (r : AluResult w) : Nat := r.v.toNat <<< 8 ||| (maskZNHC r.f).toNat

/-- `unpackValue` (R190). -/
def unpackValue (p : Nat) : Nat := p >>> 8

/-- `unpackFlags` (R190). -/
def unpackFlags (p : Nat) : Nat := p &&& 0xF0

/-- `add(l, r, c0)` (R192). -/
def add (l r : Byte) (c0 : Bool) : AluResult 8 :=
  let s := l.toNat + r.toNat + c0.toNat
  let v := BitVec.ofNat 8 s
  { v := v
    f := { z := v == 0#8, n := false, h := decide (l.toNat % 16 + r.toNat % 16 + c0.toNat > 0xF), c := decide (s > 0xFF) } }

/-- `add16L(l, r)`: the 16-bit sum with the flags of its low byte (R193). -/
def add16L (l r : Addr) : AluResult 16 :=
  { v := l + r
    f := { z := false, n := false, h := decide (l.toNat % 16 + r.toNat % 16 > 0xF)
           c := decide (l.toNat % 256 + r.toNat % 256 > 0xFF) } }

/-- `add16H(l, r)`: the 16-bit sum with the flags of its high byte (R194). -/
def add16H (l r : Addr) : AluResult 16 :=
  { v := l + r
    f := { z := false, n := false, h := decide (l.toNat % 4096 + r.toNat % 4096 > 0xFFF)
           c := decide (l.toNat + r.toNat > 0xFFFF) } }

/-- `sub(l, r, b0)` (R195). -/
def sub (l r : Byte) (b0 : Bool) : AluResult 8 :=
  let v := BitVec.ofInt 8 ((l.toNat : Int) - (r.toNat : Int) - (b0.toNat : Int))
  { v := v
    f := { z := v == 0#8, n := true, h := decide (l.toNat % 16 < r.toNat % 16 + b0.toNat)
           c := decide (l.toNat < r.toNat + b0.toNat) } }

/-- `bcdAdjust(v, n, h, c)` (R196). -/
def bcdAdjust (v : Byte) (n h c : Bool) : AluResult 8 :=
  let fixL := h || (!n && decide (v.toNat % 16 > 9))
  let fixH := c || (!n && decide (v.toNat > 0x99))
  let fix : Byte := (if fixH then 0x60#8 else 0#8) + (if fixL then 0x06#8 else 0#8)
  let va := if n then v - fix else v + fix
  { v := va, f := { z := va == 0#8, n := n, h := false, c := fixH } }

/-- A logic result: Z of the value, N and C clear, H as given. -/
def logic (v : Byte) (h : Bool) : AluResult 8 := { v := v, f := { z := v == 0#8, n := false, h := h, c := false } }

/-- `and(l, r)`: H set, N and C clear (R197). -/
def and (l r : Byte) : AluResult 8 := logic (l &&& r) true

/-- `or(l, r)` (R198). -/
def or (l r : Byte) : AluResult 8 := logic (l ||| r) false

/-- `xor(l, r)` (R199). -/
def xor (l r : Byte) : AluResult 8 := logic (l ^^^ r) false

/-- A shift's result: Z of the value, N and H clear, the ejected bit in C. -/
def shifted (v : Byte) (ejected : Bool) : AluResult 8 :=
  { v := v, f := { z := v == 0#8, n := false, h := false, c := ejected } }

/-- `shiftLeft(v)` (R200). -/
def shiftLeft (v : Byte) : AluResult 8 := shifted (v <<< 1) (v.getLsbD 7)

/-- `shiftRightA(v)`: bit 7 is kept (R201). -/
def shiftRightA (v : Byte) : AluResult 8 := shifted (v >>> 1 ||| (v &&& 0x80#8)) (v.getLsbD 0)

/-- `shiftRightL(v)` (R202). -/
def shiftRightL (v : Byte) : AluResult 8 := shifted (v >>> 1) (v.getLsbD 0)

/-- `rotate(dir, v)`: by one bit within the 8 bits (R203). -/
def rotate (dir : Dir) (v : Byte) : AluResult 8 :=
  match dir with
  | .left => shifted (v <<< 1 ||| bitIf (v.getLsbD 7) 0) (v.getLsbD 7)
  | .right => shifted (v >>> 1 ||| bitIf (v.getLsbD 0) 7) (v.getLsbD 0)

/-- `rotate(dir, v, c)`: by one bit of the 9-bit value `c ++ v` (R204). -/
def rotateCarry (dir : Dir) (v : Byte) (c : Bool) : AluResult 8 :=
  match dir with
  | .left => shifted (v <<< 1 ||| bitIf c 0) (v.getLsbD 7)
  | .right => shifted (v >>> 1 ||| bitIf c 7) (v.getLsbD 0)

/-- `swap(v)`: nibble exchange (R205). -/
def swap (v : Byte) : AluResult 8 := logic (v <<< 4 ||| v >>> 4) false

/-- `testBit(v, i)`: value 0, Z of the tested bit's complement, H set (R206). -/
def testBit (v : Byte) (i : Fin 8) : AluResult 8 :=
  { v := 0#8, f := { z := !v.getLsbD i.val, n := false, h := true, c := false } }

end Alu

end Sys2Proof
end

