-- ==== Sys2Proof/Machine/Image.lean ====
section
/-! DEFINITION. BitVector, LcdImageLine and LcdImage (`64_lcd_image.md`): the bitplane algebra. A BitVector of length w is a
`BitVec w`: bit i of the vector is bit i of the number, so bit i mod 32 of word i div 32 (R571). -/

namespace Sys2Proof

namespace BitVector

/-- A length the spec allows: a positive multiple of 32 (R570). -/
def legalLength (w : Nat) : Bool := decide (0 < w) && w % 32 == 0

/-- A vector from its words, word 0 first (R571). -/
def ofWords : List Word32 → Nat
  | [] => 0
  | w :: ws => w.toNat + 2 ^ 32 * ofWords ws

/-- `not` (R572). -/
def not {w : Nat} (v : BitVec w) : BitVec w := ~~~v

/-- `and` (R572); equal lengths by type. -/
def and {w : Nat} (v u : BitVec w) : BitVec w := v &&& u

/-- `or` (R572); equal lengths by type. -/
def or {w : Nat} (v u : BitVec w) : BitVec w := v ||| u

/-- `extractZeroExtended(v, start, size)`: bit i is `v[start + i]`, 0 outside the vector (R573). -/
def extractZeroExtended {w : Nat} (v : BitVec w) (start : Int) (size : Nat) : BitVec size :=
  if 0 ≤ start then BitVec.ofNat size (v.toNat >>> start.toNat)
  else if (-start).toNat < size then BitVec.ofNat size (v.toNat <<< (-start).toNat)
  else 0#size

/-- `extractWrapped(v, start, size)`: bit i is `v[(start + i) mod len]` (R574): enough copies of the vector side by side,
read from `start mod len`. -/
def extractWrapped {w : Nat} (v : BitVec w) (start : Int) (size : Nat) : BitVec size :=
  let k := (start % (w : Int)).toNat
  BitVec.ofNat size ((v.replicate ((k + size) / w + 1)).toNat >>> k)

/-- `shift(v, d)` = `extractZeroExtended(-d, len)` (R575). -/
def shift {w : Nat} (v : BitVec w) (d : Int) : BitVec w := extractZeroExtended v (-d) w

/-- `testBit(v, i)` (R576). -/
def testBit {w : Nat} (v : BitVec w) (i : Nat) : Bool := v.getLsbD i

/-- The builder's `setByte(k, b)`: bits 8k + j become `b[j]` (R576). -/
def setByte {w : Nat} (v : BitVec w) (k : Nat) (b : Byte) : BitVec w :=
  (v &&& ~~~(0xFF#w <<< (8 * k))) ||| (b.setWidth w <<< (8 * k))

/-- A vector built byte by byte from a zero builder, byte 0 first (R576). -/
def build {w : Nat} (bytes : List Byte) : BitVec w :=
  ((List.range bytes.length).zip bytes).foldl (fun v kb => setByte v kb.1 kb.2) 0#w

end BitVector

/-- An LcdImageLine of width w: three planes of equal length (R580). -/
structure LcdLine (w : Nat) where
  msb : BitVec w
  lsb : BitVec w
  opacity : BitVec w
deriving DecidableEq, Repr

/-- An LcdImage: a list of lines of width 160, line 0 the top (R590). -/
structure LcdImage where
  lines : List (LcdLine 160)
deriving DecidableEq, Repr

namespace LcdLine

/-- The colour at column x: `2 * msb[x] + lsb[x]` (R580). -/
def colour {w : Nat} (l : LcdLine w) (x : Nat) : Nat := 2 * (l.msb.getLsbD x).toNat + (l.lsb.getLsbD x).toNat

/-- Whether column x is opaque (R580). -/
def opaqueAt {w : Nat} (l : LcdLine w) (x : Nat) : Bool := l.opacity.getLsbD x

/-- The empty line: every column colour 0 and transparent (R589). -/
def empty (w : Nat) : LcdLine w := { msb := 0#w, lsb := 0#w, opacity := 0#w }

/-- The line builder's `setBytes(k, msb, lsb)` on its two colour planes (R581). -/
def setBytes {w : Nat} (planes : BitVec w × BitVec w) (k : Nat) (msb lsb : Byte) : BitVec w × BitVec w :=
  (BitVector.setByte planes.1 k msb, BitVector.setByte planes.2 k lsb)

/-- The line builder's `build()`: opaque where the colour is not 0 (R581). -/
def build {w : Nat} (planes : BitVec w × BitVec w) : LcdLine w :=
  { msb := planes.1, lsb := planes.2, opacity := planes.1 ||| planes.2 }

/-- `shift(L, d)` (R583). -/
def shift {w : Nat} (l : LcdLine w) (d : Int) : LcdLine w :=
  { msb := BitVector.shift l.msb d, lsb := BitVector.shift l.lsb d, opacity := BitVector.shift l.opacity d }

/-- `extractWrapped(L, start, size)` (R584). -/
def extractWrapped {w : Nat} (l : LcdLine w) (start : Int) (size : Nat) : LcdLine size :=
  { msb := BitVector.extractWrapped l.msb start size
    lsb := BitVector.extractWrapped l.lsb start size
    opacity := BitVector.extractWrapped l.opacity start size }

/-- The plane of columns whose colour is k, k in 0..3 (the `M_k` of R585). -/
def colourPlane {w : Nat} (l : LcdLine w) (k : Nat) : BitVec w :=
  (if k / 2 % 2 = 1 then l.msb else ~~~l.msb) &&& (if k % 2 = 1 then l.lsb else ~~~l.lsb)

/-- The union of the colour planes k whose palette entry has bit j set (R585). -/
def palettePlane {w : Nat} (l : LcdLine w) (p : Byte) (j : Nat) : BitVec w :=
  (List.range 4).foldl (fun acc k => if p.getLsbD (2 * k + j) then acc ||| l.colourPlane k else acc) 0#w

/-- `mapColors(L, p)`: palette entry k is bits 2k + 1 and 2k of p; the opacity is carried (R585, R582). -/
def mapColors {w : Nat} (l : LcdLine w) (p : Byte) : LcdLine w :=
  { msb := l.palettePlane p 1, lsb := l.palettePlane p 0, opacity := l.opacity }

/-- `below(L, T, op)`: L under T with the overriding opacity plane op (R586). -/
def belowWith {w : Nat} (l t : LcdLine w) (op : BitVec w) : LcdLine w :=
  { msb := (t.msb &&& op) ||| (l.msb &&& ~~~op)
    lsb := (t.lsb &&& op) ||| (l.lsb &&& ~~~op)
    opacity := l.opacity ||| op }

/-- `below(L, T)` (R587). -/
def below {w : Nat} (l t : LcdLine w) : LcdLine w := l.belowWith t t.opacity

/-- The mask of `join`: all-1 for the first n columns (R588). -/
def joinMask (w n : Nat) : BitVec w := BitVec.ofNat w (2 ^ n - 1)

/-- `join(L, T, n)`: columns 0 to n - 1 from L, the rest from T (R588). -/
def join {w : Nat} (l t : LcdLine w) (n : Nat) : LcdLine w :=
  let mask := joinMask w n
  { msb := (l.msb &&& mask) ||| (t.msb &&& ~~~mask)
    lsb := (l.lsb &&& mask) ||| (t.lsb &&& ~~~mask)
    opacity := (l.opacity &&& mask) ||| (t.opacity &&& ~~~mask) }

end LcdLine

namespace LcdImage

/-- `LcdImage(lines)` is defined for exactly 144 lines (R590). -/
def wf (i : LcdImage) : Bool := i.lines.length == 144

/-- The reset placeholder: 144 empty lines, "all-white" (`10_state.md` R66). -/
def placeholder : LcdImage := { lines := List.replicate 144 (LcdLine.empty 160) }

/-- `get(I, x, y)`: the colour index at column x of line y (R591). -/
def get (i : LcdImage) (x : Fin 160) (y : Fin 144) : Nat :=
  match i.lines[y.val]? with
  | some l => l.colour x.val
  | none => 0

end LcdImage

end Sys2Proof
end

