-- ==== Sys2Proof/Machine/State.lean ====
section
/-! DEFINITION. The complete state of the machine (`10_state.md` R20), as plain data, and its reset value (R60 to R68). -/

namespace Sys2Proof.Machine

/-- Memory contents: (address, byte) pairs in one canonical form, addresses strictly rising, no entry equal to 0x00, which is
what an unlisted address reads as (the reset contents, R65 and R68; for a cartridge image and a read-only region log entry 4). -/
abbrev Memory := List Host.Cell

/-- The fault kinds of the machine (`60_exceptions.md` R402), which are also the values of the fault latch (`10_state.md` R33)
and the reasons a step answers a fault: a step of a machine whose latch is set takes no step and reports the latched kind
(`61_scheduler.md` R462). -/
inductive Fault where
  /-- Latched by the meaning of STOP (R392); answered by every later step. Safe: the spec's own terminal stop. -/
  | stop
  /-- Latched by the meaning of an unused byte b (R144); answered by every later step. Safe: the spec's own terminal stop. -/
  | illegal (b : Byte)
deriving DecidableEq, Repr

/-- Why a request has no meaning. -/
inductive Refusal where
  /-- An instruction of the opcode table that has no meaning yet; no arm of exec answers it. Safe. -/
  | notModelled (mnemonic : String)
  /-- `runUntil(N)` with N below the cycles already executed (`61_scheduler.md` R451); raised by `runUntil` alone, never by a
  step. Safe: the spec's own `refuse`. -/
  | runUntilPast
deriving DecidableEq, Repr

/-- The eight general registers, 8 bits each (R21). -/
structure Regs where
  a : Byte
  f : Byte
  b : Byte
  c : Byte
  d : Byte
  e : Byte
  h : Byte
  l : Byte
deriving DecidableEq, Repr

/-- The Cpu's state (R20): registers, `pc`, `sp`, `ime`, IE, IF and the next active cycle, `none` for NEVER (R32). -/
structure Cpu where
  regs : Regs
  pc : Addr
  sp : Addr
  ime : Bool
  ie : Byte
  iflag : Byte
  next : Option Nat
deriving DecidableEq, Repr

/-- The Timer's state (R35). -/
structure Timer where
  counter : BitVec 16
  tima : Byte
  tma : Byte
  tac : Byte
deriving DecidableEq, Repr

/-- The LcdController's state (R36, R37, R38); `next` is `none` for NEVER; `vram` and `oam` are keyed by the offsets from 0x8000
and 0xFE00. -/
structure Lcd where
  lcdc : Byte
  stat : Byte
  scy : Byte
  scx : Byte
  ly : Byte
  lyc : Byte
  dma : Byte
  bgp : Byte
  obp0 : Byte
  obp1 : Byte
  wy : Byte
  wx : Byte
  vram : Memory
  oam : Memory
  next : Option Nat
  winY : Nat
  lines : List (LcdLine 160)
  image : LcdImage
  dmaIndex : Nat
deriving DecidableEq, Repr

/-- The Joypad's state (R39). -/
structure Joypad where
  line0 : BitVec 4
  line1 : BitVec 4
  sel : BitVec 2
deriving DecidableEq, Repr

/-- The cartridge (`20_memory.md` R92): a plain read-only image, keyed by address, or any other collaborator, of which the
machine knows the history of the writes delivered to it, newest first (log entries 4, 5). -/
inductive Cartridge where
  | image (rom : Memory)
  | oracle (history : List Host.Cell)
deriving DecidableEq, Repr

/-- The state of the platform participants (R40, R91): work RAM and high RAM, keyed by the offsets from 0xC000 and 0xFF80, and
the cartridge; for the further participants of a platform that has some, the RAMs and the fixed bytes of the read-only regions,
keyed by 65536 * k and the offset in the range, and the writes delivered to the collaborators, newest first, keyed by
65536 * k and the address. -/
structure Platform where
  workRam : Memory
  highRam : Memory
  cart : Cartridge
  ram : Memory
  rom : Memory
  external : List Host.Cell
deriving DecidableEq, Repr

/-- The complete state of the machine (R20), and beside it the parameters it was built with, which are no state (R41) and which
nothing changes (log entry 22). -/
structure State where
  params : Params
  cyc : Nat
  fault : Option Fault
  cpu : Cpu
  timer : Timer
  lcd : Lcd
  joypad : Joypad
  platform : Platform
deriving DecidableEq, Repr

/-- What a meaning, or a step, answers. -/
abbrev Result := Host.Outcome State Fault Refusal

/-- RESET (`00_scope.md` R7): a reset value for every piece of state but `cyc` and the fault latch, which are 0 and none (R68), and
the cartridge's own state. With it the contents `rom` with which the read-only regions are built (`70_reset_and_hazards.md`
R630), which stay as they are. -/
structure ResetValues where
  cpu : Cpu
  timer : Timer
  lcd : Lcd
  joypad : Joypad
  workRam : Memory
  highRam : Memory
  ram : Memory
  rom : Memory
deriving DecidableEq, Repr

/-- RESET's default (R60 to R68, `70_reset_and_hazards.md` R631). The default platform has no read-only region; for another platform
the contents 0x00 are the model's choice (log entry 4). -/
def ResetValues.default : ResetValues where
  cpu :=
    { regs := { a := 0#8, f := 0#8, b := 0#8, c := 0#8, d := 0#8, e := 0#8, h := 0#8, l := 0#8 }
      pc := 0#16, sp := 0#16, ime := false, ie := 0#8, iflag := 0#8, next := some 0 }
  timer := { counter := 0#16, tima := 0#8, tma := 0#8, tac := 0#8 }
  lcd :=
    { lcdc := 0#8, stat := 0#8, scy := 0#8, scx := 0#8, ly := 0#8, lyc := 0#8, dma := 0#8, bgp := 0#8, obp0 := 0#8
      obp1 := 0#8, wy := 0#8, wx := 0#8, vram := [], oam := [], next := none, winY := 0, lines := []
      image := LcdImage.placeholder, dmaIndex := 160 }
  joypad := { line0 := 0#4, line1 := 0#4, sel := 0#2 }
  workRam := []
  highRam := []
  ram := []
  rom := []

/-- Reset with parameters, reset values and a cartridge: the platform is built and attached, then every piece of state takes its
reset value (`70_reset_and_hazards.md` R630), F with its low nibble cleared as by every write to it (R24); no write has been
delivered to a collaborator. -/
def State.resetWith (p : Params) (r : ResetValues) (cart : Cartridge) : State where
  params := p
  cyc := 0
  fault := none
  cpu := { r.cpu with regs := { r.cpu.regs with f := r.cpu.regs.f &&& 0xF0#8 } }
  timer := r.timer
  lcd := r.lcd
  joypad := r.joypad
  platform := { workRam := r.workRam, highRam := r.highRam, cart := cart, ram := r.ram, rom := r.rom, external := [] }

/-- The state right after reset, with the default parameters and reset values. The cartridge is the model's choice: an image with
every byte 0x00 (log entry 4). -/
def State.reset : State := State.resetWith Config.params ResetValues.default (.image [])

end Sys2Proof.Machine
end

