-- ==== Sys2Proof/Machine/Interrupt.lean ====
section
/-! DEFINITION. The interrupt controller's registers and their pure logic (`60_exceptions.md` R403 to R408, R411). Taking an
interrupt is in Sys2Proof/Machine/Ops.lean. -/

namespace Sys2Proof.Machine

/-- The five interrupt sources, in priority order (R403). -/
inductive Source where
  | vblank | lcdStat | timer | serial | joypad
deriving DecidableEq, Repr

/-- The index of a source: its place in the priority order and its bit of IE and IF (R403). -/
def Source.index : Source → Nat
  | .vblank => 0 | .lcdStat => 1 | .timer => 2 | .serial => 3 | .joypad => 4

/-- The fixed address a source enters at: 0x0040 + 8 * i (R411). -/
def Source.vector (i : Source) : Addr := BitVec.ofNat 16 (0x0040 + 8 * i.index)

/-- The mask of a source's bit of IE and IF (R403). -/
def Source.bit (i : Source) : Byte := 1#8 <<< i.index

/-- `RequestInterrupt(s)`: the pending bit is set, whatever IE and `ime` hold (R405). -/
def requestInterrupt (i : Source) (s : State) : State :=
  { s with cpu := { s.cpu with iflag := s.cpu.iflag ||| i.bit } }

/-- `RequestInterrupt(s)` when the condition holds. -/
def requestIf (cond : Bool) (i : Source) (s : State) : State := if cond then requestInterrupt i s else s

/-- The ready set IE & IF & 0x1F (R407). -/
def State.ready (s : State) : Byte := s.cpu.ie &&& s.cpu.iflag &&& 0x1F#8

/-- The source chosen from a ready set: the one with the lowest index (R408). -/
def lowestReady (ready : Byte) : Option Source :=
  if ready.getLsbD 0 then some .vblank
  else if ready.getLsbD 1 then some .lcdStat
  else if ready.getLsbD 2 then some .timer
  else if ready.getLsbD 3 then some .serial
  else if ready.getLsbD 4 then some .joypad
  else none

end Sys2Proof.Machine
end

