-- ==== Sys2Proof/Machine/JoypadUnit.lean ====
section
/-! DEFINITION. The Joypad (`65_joypad.md` R610 to R617). -/

namespace Sys2Proof.Machine

/-- The eight keys (R617). -/
inductive Key where
  | right | left | up | down | a | b | select | start
deriving DecidableEq, Repr

/-- Whether a key is an action key, on line 1 (R617). -/
def Key.onLine1 : Key → Bool
  | .right => false | .left => false | .up => false | .down => false
  | .a => true | .b => true | .select => true | .start => true

/-- The bit of a key in its line (R617). -/
def Key.bit : Key → Nat
  | .right => 0 | .left => 1 | .up => 2 | .down => 3 | .a => 0 | .b => 1 | .select => 2 | .start => 3

/-- `Low4()`: the exposed lines ORed together (R613). -/
def Joypad.low4 (j : Joypad) : BitVec 4 :=
  (if j.sel.getLsbD 0 then j.line0 else 0#4) ||| (if j.sel.getLsbD 1 then j.line1 else 0#4)

/-- `P1int()`: the visible register in its active-high form (R613). -/
def Joypad.p1int (j : Joypad) : Byte := (j.sel.setWidth 8 <<< 4) ||| j.low4.setWidth 8

/-- The Joypad's answer to a bus read: the complement of the active-high form (R611). -/
def Joypad.read (j : Joypad) (a : Addr) : Option Byte := if a = 0xFF00#16 then some (~~~j.p1int) else none

/-- The Joypad's reaction to a bus write: only the select bits, active low, are stored; nothing is requested (R612). -/
def joypadWrite (s : State) (a : Addr) (v : Byte) : State :=
  if a = 0xFF00#16 then
    { s with joypad := { s.joypad with
        sel := (if v.getLsbD 4 then 0#2 else 1#2) ||| (if v.getLsbD 5 then 0#2 else 2#2) } }
  else s

/-- The joypad with a key's bit set or cleared (R614, R615). -/
def Joypad.setKey (j : Joypad) (k : Key) (held : Bool) : Joypad :=
  if k.onLine1 then { j with line1 := bitSet j.line1 k.bit held } else { j with line0 := bitSet j.line0 k.bit held }

/-- A key event: the line bit changes, and a 0 to 1 transition of the low four visible bits requests JOYPAD (R614, R615). -/
def keyEvent (k : Key) (held : Bool) (s : State) : State :=
  let old := s.joypad.low4
  let j := s.joypad.setKey k held
  requestIf (j.low4 &&& ~~~old != 0#4) .joypad { s with joypad := j }

/-- `keyPressed(k)` (R614). -/
def keyPressed (k : Key) (s : State) : State := keyEvent k true s

/-- `keyReleased(k)` (R615). -/
def keyReleased (k : Key) (s : State) : State := keyEvent k false s

end Sys2Proof.Machine
end

