-- ==== Sys2Proof/Machine/Memory.lean ====
section
/-! DEFINITION. Reading and writing one byte of a `Memory`, and its canonical form. -/

namespace Sys2Proof.Machine

/-- The byte at `k`; an unlisted address reads 0x00. -/
def Memory.load : Memory → Nat → Byte
  | [], _ => 0#8
  | (a, v) :: m, k => if k = a then v else Memory.load m k

/-- The memory with `v` at `k`, in canonical form: writing 0x00 removes the entry. -/
def Memory.store : Memory → Nat → Byte → Memory
  | [], k, v => if v = 0#8 then [] else [(k, v)]
  | (a, w) :: m, k, v =>
    if k < a then (if v = 0#8 then (a, w) :: m else (k, v) :: (a, w) :: m)
    else if k = a then (if v = 0#8 then m else (k, v) :: m)
    else (a, w) :: Memory.store m k v

/-- The canonical form from address `lo` on, below `hi`: strictly rising addresses and no entry 0x00. -/
def Memory.wfFrom (hi : Nat) : Nat → Memory → Bool
  | _, [] => true
  | lo, (a, v) :: m => decide (lo ≤ a) && decide (a < hi) && decide (v ≠ 0#8) && Memory.wfFrom hi (a + 1) m

/-- The canonical form of a memory of `size` bytes. -/
def Memory.wf (size : Nat) (m : Memory) : Bool := Memory.wfFrom size 0 m

/-- The cartridge's canonical form: an image is a memory of 32 KiB (R92). -/
def Cartridge.wf : Cartridge → Bool
  | .image rom => Memory.wf 0x8000 rom
  | .oracle _ => true

/-- Every memory of the machine is in canonical form and inside its size (R37, R40, R91). -/
def State.memoryWf (s : State) : Bool :=
  Memory.wf 8192 s.lcd.vram && Memory.wf 160 s.lcd.oam && Memory.wf 8192 s.platform.workRam
    && Memory.wf 127 s.platform.highRam && s.platform.cart.wf && Memory.wf 0x1000000 s.platform.ram
    && Memory.wf 0x1000000 s.platform.rom

end Sys2Proof.Machine
end

