-- ==== Sys2Proof/Machine/Line.lean ====
section
/-! DEFINITION. The computation of one scanline (`63_lcd_controller.md` R520 to R530): direct reads of `vram`, `oam` and the
registers at one instant (`20_memory.md` R106). -/

namespace Sys2Proof.Machine

/-- The byte of `vram` at a bus address in 0x8000..0x9FFF (R490). -/
def Lcd.vramAt (l : Lcd) (a : Nat) : Byte := l.vram.load (a - 0x8000)

/-- The byte k of `oam`, k in 0..159 (R490). -/
def Lcd.oamAt (l : Lcd) (k : Nat) : Byte := l.oam.load k

/-- The base of a tile map, by the area bit (R492, R521, R524). -/
def mapBase (area : Bool) : Nat := if area then 0x9C00 else 0x9800

/-- `TileDataAddr(idx)` for background and window (R523). -/
def Lcd.tileDataAddr (l : Lcd) (idx : Byte) : Nat :=
  if l.lcdc.getLsbD 4 then 0x8000 + 16 * idx.toNat
  else if idx.toNat < 0x80 then 0x9000 + 16 * idx.toNat
  else 0x8800 + 16 * (idx.toNat - 0x80)

/-- `TileLine(mapBase, row)`: the 256-pixel line of one row of a 32-by-32 tile map (R522). -/
def Lcd.tileLine (l : Lcd) (base row : Nat) : LcdLine 256 :=
  LcdLine.build ((List.range 32).foldl (fun planes tx =>
    let a := l.tileDataAddr (l.vramAt (base + 32 * (row / 8) + tx)) + 2 * (row % 8)
    LcdLine.setBytes planes tx (reverse8 (l.vramAt (a + 1))) (reverse8 (l.vramAt a))) (0#256, 0#256))

/-- `BackgroundLine(y)` (R521). -/
def Lcd.backgroundLine (l : Lcd) (y : Nat) : LcdLine 160 :=
  if l.lcdc.getLsbD 0 then
    ((l.tileLine (mapBase (l.lcdc.getLsbD 3)) ((y + l.scy.toNat) % 256)).extractWrapped (l.scx.toNat : Int) 160).mapColors l.bgp
  else LcdLine.empty 160

/-- Whether the window is drawn on line y: LCDC[5], WY <= y and 0 <= WX - 7 < 160 (R524). -/
def Lcd.windowActive (l : Lcd) (y : Nat) : Bool :=
  l.lcdc.getLsbD 5 && decide (l.wy.toNat ≤ y) && decide (7 ≤ l.wx.toNat) && decide (l.wx.toNat < 167)

/-- `WindowOver(bg, y)`: the line, and the window line counter afterwards (R524). -/
def Lcd.windowOver (l : Lcd) (bg : LcdLine 160) (y : Nat) : LcdLine 160 × Nat :=
  if l.windowActive y then
    let wx := l.wx.toNat - 7
    let w := (((l.tileLine (mapBase (l.lcdc.getLsbD 6)) l.winY).extractWrapped 0 160).shift (wx : Int)).mapColors l.bgp
    (bg.join w wx, l.winY + 1)
  else (bg, l.winY)

/-- The height of a sprite: 16 if LCDC[2], else 8 (R525). -/
def Lcd.spriteHeight (l : Lcd) : Nat := if l.lcdc.getLsbD 2 then 16 else 8

/-- The fields of object entry i: Y, X, tile index, attributes (R525). -/
def Lcd.spriteY (l : Lcd) (i : Nat) : Nat := (l.oamAt (4 * i)).toNat

/-- X of object entry i (R525). -/
def Lcd.spriteX (l : Lcd) (i : Nat) : Nat := (l.oamAt (4 * i + 1)).toNat

/-- The tile index of object entry i (R525). -/
def Lcd.spriteTile (l : Lcd) (i : Nat) : Byte := l.oamAt (4 * i + 2)

/-- The attribute byte of object entry i (R525, R527). -/
def Lcd.spriteAttr (l : Lcd) (i : Nat) : Byte := l.oamAt (4 * i + 3)

/-- Entry i intersects line y: Y - 16 <= y < Y - 16 + h, on integers (R525). -/
def Lcd.intersects (l : Lcd) (y i : Nat) : Bool :=
  decide (l.spriteY i ≤ y + 16) && decide (y + 16 < l.spriteY i + l.spriteHeight)

/-- The sort key of entry i: X in the high bits, the index in the low (R526). -/
def Lcd.spriteKey (l : Lcd) (i : Nat) : Nat := l.spriteX i <<< 8 ||| i

/-- Insertion of an entry before the first entry with a larger key. -/
def insertByKey (key : Nat → Nat) (i : Nat) : List Nat → List Nat
  | [] => [i]
  | j :: js => if key i ≤ key j then i :: j :: js else j :: insertByKey key i js

/-- Ascending order of the keys (R526). -/
def sortByKey (key : Nat → Nat) : List Nat → List Nat
  | [] => []
  | i :: is => insertByKey key i (sortByKey key is)

/-- `SelectSprites(y)`: the first ten entries that intersect the line (R525), in priority order (R526). -/
def Lcd.selectSprites (l : Lcd) (y : Nat) : List Nat :=
  sortByKey l.spriteKey (((List.range 40).filter (l.intersects y)).take 10)

/-- `SpriteLine(i, y)` (R527). -/
def Lcd.spriteLine (l : Lcd) (i y : Nat) : LcdLine 160 :=
  let h := l.spriteHeight
  let attr := l.spriteAttr i
  let r0 := y + 16 - l.spriteY i
  let r := if attr.getLsbD 6 then h - 1 - r0 else r0
  let t := if h = 16 then l.spriteTile i &&& 0xFE#8 else l.spriteTile i
  let a := 0x8000 + 16 * t.toNat + 2 * r
  let lo := l.vramAt a
  let hi := l.vramAt (a + 1)
  let bytes := if attr.getLsbD 5 then (hi, lo) else (reverse8 hi, reverse8 lo)
  let pal := if attr.getLsbD 4 then l.obp1 else l.obp0
  ((LcdLine.build (LcdLine.setBytes (0#160, 0#160) 0 bytes.1 bytes.2)).shift ((l.spriteX i : Int) - 8)).mapColors pal

/-- `SpriteLayer(S, y, p)`: each later sprite goes under what is already there (R528). -/
def Lcd.spriteLayer (l : Lcd) (sprites : List Nat) (y : Nat) (behind : Bool) : LcdLine 160 :=
  sprites.foldl (fun acc i => if (l.spriteAttr i).getLsbD 7 = behind then (l.spriteLine i y).below acc else acc)
    (LcdLine.empty 160)

/-- `Composite(bgwin, behind, front)` (R529). -/
def composite (bgwin behind front : LcdLine 160) : LcdLine 160 :=
  (behind.belowWith bgwin (bgwin.opacity ||| ~~~behind.opacity)).below front

/-- `ComputeLine(y)`: the line, and the window line counter afterwards (R520, R530). -/
def Lcd.computeLine (l : Lcd) (y : Nat) : LcdLine 160 × Nat :=
  let bgwin := l.windowOver (l.backgroundLine y) y
  if l.lcdc.getLsbD 1 then
    let sprites := l.selectSprites y
    (composite bgwin.1 (l.spriteLayer sprites y true) (l.spriteLayer sprites y false), bgwin.2)
  else bgwin

end Sys2Proof.Machine
end

