-- ==== Sys2Proof/Machine/LcdUnit.lean ====
section
/-! DEFINITION. The LCD controller's registers on the bus and its scanline state machine (`63_lcd_controller.md` R490 to R518).
Its DMA engine, which reads the bus, is in Sys2Proof/Machine/Scheduler.lean. -/

namespace Sys2Proof.Machine

/-- The modes M0 to M3 (R493). -/
inductive Mode where
  | m0 | m1 | m2 | m3
deriving DecidableEq, Repr

/-- The mode's code in STAT[1:0] (R493). -/
def Mode.code : Mode → Byte
  | .m0 => 0#8 | .m1 => 1#8 | .m2 => 2#8 | .m3 => 3#8

/-- The current mode, STAT[1:0] (R493). -/
def Lcd.mode (l : Lcd) : Mode :=
  if l.stat.getLsbD 1 then (if l.stat.getLsbD 0 then .m3 else .m2) else (if l.stat.getLsbD 0 then .m1 else .m0)

/-- The twelve registers, in the order of their addresses 0xFF40 to 0xFF4B (R491). -/
inductive LcdReg where
  | lcdc | stat | scy | scx | ly | lyc | dma | bgp | obp0 | obp1 | wy | wx
deriving DecidableEq, Repr

/-- The registers in the order of their addresses. -/
def LcdReg.all : List LcdReg := [.lcdc, .stat, .scy, .scx, .ly, .lyc, .dma, .bgp, .obp0, .obp1, .wy, .wx]

/-- The bus address of a register (R491). -/
def LcdReg.addr : LcdReg → Addr
  | .lcdc => 0xFF40#16 | .stat => 0xFF41#16 | .scy => 0xFF42#16 | .scx => 0xFF43#16
  | .ly => 0xFF44#16 | .lyc => 0xFF45#16 | .dma => 0xFF46#16 | .bgp => 0xFF47#16
  | .obp0 => 0xFF48#16 | .obp1 => 0xFF49#16 | .wy => 0xFF4A#16 | .wx => 0xFF4B#16

/-- The register at a bus address (R491). -/
def lcdRegAt (a : Addr) : Option LcdReg := LcdReg.all.find? (fun r => r.addr == a)

/-- A register's contents, all 8 bits as stored (R494). -/
def Lcd.readReg (l : Lcd) : LcdReg → Byte
  | .lcdc => l.lcdc | .stat => l.stat | .scy => l.scy | .scx => l.scx
  | .ly => l.ly | .lyc => l.lyc | .dma => l.dma | .bgp => l.bgp
  | .obp0 => l.obp0 | .obp1 => l.obp1 | .wy => l.wy | .wx => l.wx

/-- Whether an address lies in `vram` (R491). -/
def inVram (a : Addr) : Bool := decide (0x8000 ≤ a.toNat) && decide (a.toNat ≤ 0x9FFF)

/-- Whether an address lies in `oam` (R491). -/
def inOam (a : Addr) : Bool := decide (0xFE00 ≤ a.toNat) && decide (a.toNat ≤ 0xFE9F)

/-- The controller's answer to a bus read (R491, R494). -/
def Lcd.read (l : Lcd) (a : Addr) : Option Byte :=
  if inVram a then some (l.vram.load (a.toNat - 0x8000))
  else if inOam a then some (l.oam.load (a.toNat - 0xFE00))
  else (lcdRegAt a).map l.readReg

/-- `Compare()`: STAT[2] is the equality of LY and LYC, which with STAT[6] requests LCD_STAT (R499). -/
def compareLy (s : State) : State :=
  let eq := s.lcd.ly == s.lcd.lyc
  requestIf (eq && s.lcd.stat.getLsbD 6) .lcdStat
    { s with lcd := { s.lcd with stat := bitSet s.lcd.stat 2 eq } }

/-- `SetLY(v)` (R515). -/
def setLy (v : Byte) (s : State) : State := compareLy { s with lcd := { s.lcd with ly := v } }

/-- The mode bits of STAT made those of m, the others kept. -/
def Lcd.withMode (l : Lcd) (m : Mode) : Lcd := { l with stat := (l.stat &&& 0xFC#8) ||| m.code }

/-- The LCD_STAT enable bit of a mode's entry: STAT[3], STAT[4], STAT[5] for M0, M1, M2; M3 has none (R514). -/
def Lcd.modeInterrupt (l : Lcd) : Mode → Bool
  | .m0 => l.stat.getLsbD 3 | .m1 => l.stat.getLsbD 4 | .m2 => l.stat.getLsbD 5 | .m3 => false

/-- `EnterMode(m)` (R514). -/
def enterMode (m : Mode) (s : State) : State :=
  let s1 := { s with lcd := s.lcd.withMode m }
  requestIf (s1.lcd.modeInterrupt m) .lcdStat (requestIf (m == .m1) .vblank s1)

/-- `Disable()` (R516). -/
def lcdDisable (s : State) : State :=
  let s1 := setLy 0#8 s
  { s1 with lcd := { s1.lcd.withMode .m0 with next := none, lines := [] } }

/-- A write to LCDC (R496). -/
def writeLcdc (s : State) (v : Byte) : State :=
  let s1 := { s with lcd := { s.lcd with lcdc := v } }
  if s.lcd.lcdc.getLsbD 7 && !v.getLsbD 7 then lcdDisable s1 else s1

/-- A write to STAT: bits 7:3 are stored, bits 2:0 kept (R497). -/
def writeStat (s : State) (v : Byte) : State :=
  { s with lcd := { s.lcd with stat := (v &&& 0xF8#8) ||| (s.lcd.stat &&& 0x07#8) } }

/-- A write to LYC (R499). -/
def writeLyc (s : State) (v : Byte) : State := compareLy { s with lcd := { s.lcd with lyc := v } }

/-- A write to DMA: a transfer starts from byte 0 (R500). -/
def writeDma (s : State) (v : Byte) : State := { s with lcd := { s.lcd with dma := v, dmaIndex := 0 } }

/-- A write to a register (R496 to R501); a write to LY is ignored (R498). -/
def writeLcdReg (s : State) (r : LcdReg) (v : Byte) : State :=
  match r with
  | .lcdc => writeLcdc s v
  | .stat => writeStat s v
  | .scy => { s with lcd := { s.lcd with scy := v } }
  | .scx => { s with lcd := { s.lcd with scx := v } }
  | .ly => s
  | .lyc => writeLyc s v
  | .dma => writeDma s v
  | .bgp => { s with lcd := { s.lcd with bgp := v } }
  | .obp0 => { s with lcd := { s.lcd with obp0 := v } }
  | .obp1 => { s with lcd := { s.lcd with obp1 := v } }
  | .wy => { s with lcd := { s.lcd with wy := v } }
  | .wx => { s with lcd := { s.lcd with wx := v } }

/-- The controller's reaction to a bus write (R495). -/
def lcdWrite (s : State) (a : Addr) (v : Byte) : State :=
  if inVram a then { s with lcd := { s.lcd with vram := s.lcd.vram.store (a.toNat - 0x8000) v } }
  else if inOam a then { s with lcd := { s.lcd with oam := s.lcd.oam.store (a.toNat - 0xFE00) v } }
  else
    match lcdRegAt a with
    | some r => writeLcdReg s r v
    | none => s

/-- The LCD's next active cycle made `c + k` (R513). -/
def lcdSchedule (k : Nat) (s : State) : State := { s with lcd := { s.lcd with next := some (s.cyc + k) } }

/-- A fresh frame: no line drawn, the window line counter 0 (R512, R513). -/
def freshFrame (s : State) : State := { s with lcd := { s.lcd with lines := [], winY := 0 } }

/-- `Enable(c)` (R512). -/
def lcdEnable (s : State) : State := lcdSchedule s.params.mode2Cycles (enterMode .m2 (freshFrame s))

/-- The line of the current scanline is computed and appended (R513, R520). -/
def drawLine (s : State) : State :=
  let line := s.lcd.computeLine s.lcd.ly.toNat
  { s with lcd := { s.lcd with lines := s.lcd.lines ++ [line.1], winY := line.2 } }

/-- `Publish()` (R517). -/
def publish (s : State) : State := { s with lcd := { s.lcd with image := { lines := s.lcd.lines } } }

/-- `LcdAct(c)` in mode 0: the next scanline, or vertical blank (R513). -/
def lcdActM0 (s : State) : State :=
  let s1 := setLy (s.lcd.ly + 1#8) s
  if s1.lcd.ly = 144#8 then lcdSchedule s.params.vblankLineCycles (publish (enterMode .m1 s1))
  else lcdSchedule s.params.mode2Cycles (enterMode .m2 s1)

/-- `LcdAct(c)` in mode 1: the next vertical-blank line, or the next frame (R513). -/
def lcdActM1 (s : State) : State :=
  if s.lcd.ly = 153#8 then lcdSchedule s.params.mode2Cycles (enterMode .m2 (freshFrame (setLy 0#8 s)))
  else lcdSchedule s.params.vblankLineCycles (setLy (s.lcd.ly + 1#8) s)

/-- `LcdAct(c)` (R513). -/
def lcdAct (s : State) : State :=
  match s.lcd.mode with
  | .m2 => lcdSchedule s.params.mode3Cycles (drawLine (enterMode .m3 s))
  | .m3 => lcdSchedule s.params.mode0Cycles (enterMode .m0 s)
  | .m0 => lcdActM0 s
  | .m1 => lcdActM1 s

end Sys2Proof.Machine
end

