-- ==== Sys2Proof/Machine/TimerUnit.lean ====
section
/-! DEFINITION. The Timer (`62_timer.md` R470 to R481). -/

namespace Sys2Proof.Machine

/-- The bit of the main counter that TAC[1:0] selects (R477). -/
def selBit (tac : Byte) : Nat :=
  if tac.getLsbD 1 then (if tac.getLsbD 0 then 7 else 5) else (if tac.getLsbD 0 then 3 else 9)

/-- `Signal()`: TAC[2] and the observed bit of the main counter (R474). -/
def Timer.signal (t : Timer) : Bool := t.tac.getLsbD 2 && t.counter.getLsbD (selBit t.tac)

/-- `IncIfFalling(s0)`: TIMA counts a 1 to 0 transition of the signal; on overflow it reloads from TMA and TIMER is requested
(R475, R476). -/
def incIfFalling (s0 : Bool) (s : State) : State :=
  if s0 && !s.timer.signal then
    if s.timer.tima = 0xFF#8 then
      requestInterrupt .timer { s with timer := { s.timer with tima := s.timer.tma } }
    else { s with timer := { s.timer with tima := s.timer.tima + 1#8 } }
  else s

/-- `TimerStep(c)` (R473). -/
def timerStep (s : State) : State :=
  incIfFalling s.timer.signal { s with timer := { s.timer with counter := s.timer.counter + 4#16 } }

/-- DIV: the high byte of the main counter (R471). -/
def Timer.div (t : Timer) : Byte := highByte t.counter

/-- The four registers at 0xFF04 to 0xFF07 (R471). -/
inductive TimerReg where
  | div | tima | tma | tac
deriving DecidableEq, Repr

/-- The bus address of a register (R471). -/
def TimerReg.addr : TimerReg → Addr
  | .div => 0xFF04#16 | .tima => 0xFF05#16 | .tma => 0xFF06#16 | .tac => 0xFF07#16

/-- The register at a bus address (R471). -/
def timerRegAt (a : Addr) : Option TimerReg := [TimerReg.div, .tima, .tma, .tac].find? (fun r => r.addr == a)

/-- What a read of a register returns (R471). -/
def Timer.readReg (t : Timer) : TimerReg → Byte
  | .div => t.div | .tima => t.tima | .tma => t.tma | .tac => t.tac

/-- The Timer's answer to a bus read (R471). -/
def Timer.read (t : Timer) (a : Addr) : Option Byte := (timerRegAt a).map t.readReg

/-- A write to DIV: the main counter is reset, with the falling-edge check; the data byte is ignored (R478). -/
def writeDiv (s : State) : State :=
  incIfFalling s.timer.signal { s with timer := { s.timer with counter := 0#16 } }

/-- A write to TAC: stored whole, with the falling-edge check (R479). -/
def writeTac (s : State) (v : Byte) : State :=
  incIfFalling s.timer.signal { s with timer := { s.timer with tac := v } }

/-- A write to a register (R478 to R480). -/
def writeTimerReg (s : State) (r : TimerReg) (v : Byte) : State :=
  match r with
  | .div => writeDiv s
  | .tima => { s with timer := { s.timer with tima := v } }
  | .tma => { s with timer := { s.timer with tma := v } }
  | .tac => writeTac s v

/-- The Timer's reaction to a bus write (R472). -/
def timerWrite (s : State) (a : Addr) (v : Byte) : State :=
  match timerRegAt a with
  | some r => writeTimerReg s r v
  | none => s

end Sys2Proof.Machine
end

