-- ==== Sys2Proof/Machine/Bus.lean ====
section
/-! DEFINITION. The bus (`20_memory.md` R80 to R101): an ordered list of participants; the first answer wins a read, a write
reaches all. -/

namespace Sys2Proof.Machine

/-- The Cpu's answer to a bus read: IE and IF (R84). -/
def Cpu.read (c : Cpu) (a : Addr) : Option Byte :=
  if a = 0xFFFF#16 then some c.ie else if a = 0xFF0F#16 then some c.iflag else none

/-- The Cpu's reaction to a bus write (R84). -/
def cpuWrite (s : State) (a : Addr) (v : Byte) : State :=
  if a = 0xFFFF#16 then { s with cpu := { s.cpu with ie := v } }
  else if a = 0xFF0F#16 then { s with cpu := { s.cpu with iflag := v } }
  else s

/-- The addresses the cartridge claims on the default platform (R91). -/
def cartridgeClaims (a : Addr) : Bool := decide (a.toNat ≤ 0x7FFF) || (decide (0xA000 ≤ a.toNat) && decide (a.toNat ≤ 0xBFFF))

/-- The cartridge's answer to a bus read (R92). -/
def Cartridge.read (c : Cartridge) (a : Addr) : Option Byte :=
  match c with
  | .image rom => if a.toNat ≤ 0x7FFF then some (rom.load a.toNat) else none
  | .oracle history => if cartridgeClaims a then Config.cartridgeAnswer history a.toNat else none

/-- The cartridge's reaction to a bus write: an image ignores it, any other keeps it in its history (R92). -/
def Cartridge.write (c : Cartridge) (a : Addr) (v : Byte) : Cartridge :=
  match c with
  | .image rom => .image rom
  | .oracle history => if cartridgeClaims a then .oracle ((a.toNat, v) :: history) else .oracle history

/-- Whether an address lies in work RAM (R91). -/
def inWorkRam (a : Addr) : Bool := decide (0xC000 ≤ a.toNat) && decide (a.toNat ≤ 0xDFFF)

/-- Whether an address lies in the echo of work RAM (R91). -/
def inEcho (a : Addr) : Bool := decide (0xE000 ≤ a.toNat) && decide (a.toNat ≤ 0xFDFF)

/-- Whether an address lies in high RAM (R91). -/
def inHighRam (a : Addr) : Bool := decide (0xFF80 ≤ a.toNat) && decide (a.toNat ≤ 0xFFFE)

/-- Whether an address lies in a range. -/
def inRange (lo hi a : Addr) : Bool := decide (lo.toNat ≤ a.toNat) && decide (a.toNat ≤ hi.toNat)

/-- The key of a place of the further RAM, read-only region or collaborator k. -/
def placeOf (k : Byte) (place : Nat) : Nat := 65536 * k.toNat + place

/-- The writes delivered to the collaborator k, by address, newest first. -/
def deliveredTo (k : Byte) (history : List Host.Cell) : List Host.Cell :=
  (history.filter (fun c => c.1 / 65536 == k.toNat)).map (fun c => (c.1 % 65536, c.2))

/-- A participant's `read` (R81, R84 to R87, R91, `10_state.md` R40); `none` is NO_DATA. -/
def participantRead (p : Participant) (s : State) (a : Addr) : Option Byte :=
  match p with
  | .workRam => if inWorkRam a then some (s.platform.workRam.load (a.toNat - 0xC000)) else none
  | .echo => if inEcho a then some (s.platform.workRam.load (a.toNat - 0xE000)) else none
  | .cpu => s.cpu.read a
  | .highRam => if inHighRam a then some (s.platform.highRam.load (a.toNat - 0xFF80)) else none
  | .timer => s.timer.read a
  | .lcd => s.lcd.read a
  | .joypad => s.joypad.read a
  | .cartridge => s.platform.cart.read a
  | .ram k lo hi => if inRange lo hi a then some (s.platform.ram.load (placeOf k (a.toNat - lo.toNat))) else none
  | .rom k lo hi => if inRange lo hi a then some (s.platform.rom.load (placeOf k (a.toNat - lo.toNat))) else none
  | .external k lo hi =>
    if inRange lo hi a then Config.externalAnswer k (deliveredTo k s.platform.external) a.toNat else none

/-- A participant's `write` (R81, R84 to R87, R91); a read-only region ignores it. -/
def participantWrite (p : Participant) (s : State) (a : Addr) (v : Byte) : State :=
  match p with
  | .workRam =>
    if inWorkRam a then
      { s with platform := { s.platform with workRam := s.platform.workRam.store (a.toNat - 0xC000) v } }
    else s
  | .echo =>
    if inEcho a then
      { s with platform := { s.platform with workRam := s.platform.workRam.store (a.toNat - 0xE000) v } }
    else s
  | .cpu => cpuWrite s a v
  | .highRam =>
    if inHighRam a then
      { s with platform := { s.platform with highRam := s.platform.highRam.store (a.toNat - 0xFF80) v } }
    else s
  | .timer => timerWrite s a v
  | .lcd => lcdWrite s a v
  | .joypad => joypadWrite s a v
  | .cartridge => { s with platform := { s.platform with cart := s.platform.cart.write a v } }
  | .ram k lo hi =>
    if inRange lo hi a then
      { s with platform := { s.platform with ram := s.platform.ram.store (placeOf k (a.toNat - lo.toNat)) v } }
    else s
  | .rom _ _ _ => s
  | .external k lo hi =>
    if inRange lo hi a then
      { s with platform := { s.platform with external := (placeOf k a.toNat, v) :: s.platform.external } }
    else s

/-- Whether a participant claims an address: outside its claims it answers NO_DATA and ignores writes (R84 to R87, R91, R92). -/
def participantClaims (p : Participant) (a : Addr) : Bool :=
  match p with
  | .workRam => inWorkRam a
  | .echo => inEcho a
  | .cpu => a == 0xFFFF#16 || a == 0xFF0F#16
  | .highRam => inHighRam a
  | .timer => (timerRegAt a).isSome
  | .lcd => inVram a || inOam a || (lcdRegAt a).isSome
  | .joypad => a == 0xFF00#16
  | .cartridge => cartridgeClaims a
  | .ram _ lo hi => inRange lo hi a
  | .rom _ lo hi => inRange lo hi a
  | .external _ lo hi => inRange lo hi a

/-- The participants that claim an address, in attachment order. -/
def State.claimants (s : State) (a : Addr) : List Participant := s.params.platform.filter (fun p => participantClaims p a)

/-- `MemRead(addr, 1)`: the first answer in attachment order, 0xFF if there is none (R82). No read has a side effect (R101). -/
def busRead (s : State) (a : Addr) : Byte := (s.params.platform.findSome? (fun p => participantRead p s a)).getD 0xFF#8

/-- `MemWrite(addr, 1, data)`: every participant sees the write, in attachment order (R83). -/
def busWrite (s : State) (a : Addr) (v : Byte) : State := s.params.platform.foldl (fun t p => participantWrite p t a v) s

/-- `MemRead(addr, 2)`: little-endian, the address wraps (R95, R96). -/
def busRead16 (s : State) (a : Addr) : Addr := make16 (busRead s (a + 1#16)) (busRead s a)

/-- `MemWrite(addr, 2, v)`: the low byte first, the address wraps (R95, R97). -/
def busWrite16 (s : State) (a : Addr) (v : Addr) : State :=
  busWrite (busWrite s a (lowByte v)) (a + 1#16) (highByte v)

end Sys2Proof.Machine
end

