-- ==== Sys2Proof/Machine/Operands.lean ====
section
/-! DEFINITION. Reading and writing the operand forms (`30_encoding.md` R132 to R135, `10_state.md` R21 to R26): registers,
pairs, the byte at (HL), the indirect accumulator operands, page 0xFF. -/

namespace Sys2Proof.Machine

/-- `x[r]` (`00_scope.md` R10). -/
def Regs.get (g : Regs) : Reg → Byte
  | .a => g.a | .f => g.f | .b => g.b | .c => g.c | .d => g.d | .e => g.e | .h => g.h | .l => g.l

/-- `x[r] <- v`; a write to F stores `v & 0xF0` (R24). -/
def Regs.set (g : Regs) (r : Reg) (v : Byte) : Regs :=
  match r with
  | .a => { g with a := v }
  | .f => { g with f := v &&& 0xF0#8 }
  | .b => { g with b := v }
  | .c => { g with c := v }
  | .d => { g with d := v }
  | .e => { g with e := v }
  | .h => { g with h := v }
  | .l => { g with l := v }

/-- `x[r]`. -/
def State.reg (s : State) (r : Reg) : Byte := s.cpu.regs.get r

/-- `x[r] <- v`. -/
def State.setReg (s : State) (r : Reg) (v : Byte) : State := { s with cpu := { s.cpu with regs := s.cpu.regs.set r v } }

/-- The register file's `testBit(r, i)` (R26). -/
def State.testRegBit (s : State) (r : Reg) (i : Fin 8) : Bool := (s.reg r).getLsbD i.val

/-- The register file's `setBit(r, i, b)` (R26). -/
def State.setRegBit (s : State) (r : Reg) (i : Fin 8) (b : Bool) : State := s.setReg r (bitSet (s.reg r) i.val b)

/-- `x[r]` for an operand register (R132). -/
def State.r8 (s : State) (r : R8) : Byte := s.reg r.reg

/-- `x[r] <- v` for an operand register (R132). -/
def State.setR8 (s : State) (r : R8) (v : Byte) : State := s.setReg r.reg v

/-- The high and the low register of a pair (R22). -/
def Pair.regs : Pair → Reg × Reg
  | .bc => (.b, .c) | .de => (.d, .e) | .hl => (.h, .l) | .af => (.a, .f)

/-- `x16[p]` (R25). -/
def State.pair (s : State) (p : Pair) : Addr := make16 (s.reg (Pair.regs p).1) (s.reg (Pair.regs p).2)

/-- `x16[p] <- v`; through AF the low nibble is masked by the write to F (R25). -/
def State.setPair (s : State) (p : Pair) (v : Addr) : State :=
  (s.setReg (Pair.regs p).1 (highByte v)).setReg (Pair.regs p).2 (lowByte v)

/-- `sp <- v` (R28). -/
def State.setSp (s : State) (v : Addr) : State := { s with cpu := { s.cpu with sp := v } }

/-- The value of a pair or SP selected by the field `r16sp` (R133). -/
def State.r16sp (s : State) : R16sp → Addr
  | .bc => s.pair .bc | .de => s.pair .de | .hl => s.pair .hl | .sp => s.cpu.sp

/-- The write of a pair or SP selected by the field `r16sp` (R133). -/
def State.setR16sp (s : State) (p : R16sp) (v : Addr) : State :=
  match p with
  | .bc => s.setPair .bc v
  | .de => s.setPair .de v
  | .hl => s.setPair .hl v
  | .sp => s.setSp v

/-- `x16[HL]`, the address of the operand of code 6 (R132). -/
def State.hl (s : State) : Addr := s.pair .hl

/-- `Read8(x16[HL])` (R132). -/
def State.atHl (s : State) : Byte := busRead s s.hl

/-- The address of an indirect accumulator operand (R133). -/
def State.memPtr (s : State) : R16mem → Addr
  | .bc => s.pair .bc | .de => s.pair .de | .hlInc => s.hl | .hlDec => s.hl

/-- HL after an indirect accumulator access: incremented for (HL+), decremented for (HL-), modulo 2^16 (R133). -/
def State.stepHl (s : State) : R16mem → State
  | .bc => s
  | .de => s
  | .hlInc => s.setPair .hl (s.hl + 1#16)
  | .hlDec => s.setPair .hl (s.hl - 1#16)

/-- The address 0xFF00 + n of the LDH forms (R135, `41_load8.md` R244). -/
def highPage (n : Byte) : Addr := make16 0xFF#8 n

end Sys2Proof.Machine
end

