-- ==== Sys2Proof/Machine/Flags.lean ====
section
/-! DEFINITION. The flags in F (`10_state.md` R23) and the write-back of an instruction's four-tuple (`00_scope.md` R12). -/

namespace Sys2Proof.Machine

/-- The four sources of a flag (R12): 0, 1, the ALU's value, or the value F holds. -/
inductive FlagSrc where
  | zero | one | alu | keep
deriving DecidableEq, Repr

/-- An instruction's tuple (z, n, h, c) (R12). -/
structure FlagTuple where
  z : FlagSrc
  n : FlagSrc
  h : FlagSrc
  c : FlagSrc
deriving DecidableEq, Repr

/-- The flag a source gives. -/
def FlagSrc.pick (src : FlagSrc) (alu old : Bool) : Bool :=
  match src with
  | .zero => false
  | .one => true
  | .alu => alu
  | .keep => old

/-- The flags of F: Z at bit 7, N at 6, H at 5, C at 4 (R23). -/
def State.flags (s : State) : Flags :=
  { z := s.cpu.regs.f.getLsbD 7, n := s.cpu.regs.f.getLsbD 6, h := s.cpu.regs.f.getLsbD 5, c := s.cpu.regs.f.getLsbD 4 }

/-- The flags a tuple gives from the ALU's flags and F's. -/
def FlagTuple.pick (t : FlagTuple) (alu old : Flags) : Flags :=
  { z := t.z.pick alu.z old.z, n := t.n.pick alu.n old.n, h := t.h.pick alu.h old.h, c := t.c.pick alu.c old.c }

/-- `SetFlags((z,n,h,c), f)`: the low nibble of F stays 0 (R12). -/
def State.setFlags (s : State) (t : FlagTuple) (alu : Flags) : State :=
  s.setReg .f (Alu.maskZNHC (t.pick alu s.flags))

/-- `Cond(cc)`, from F as it is when the instruction starts (R134, R152). -/
def State.cond (s : State) : Cond → Bool
  | .nz => !s.flags.z
  | .z => s.flags.z
  | .nc => !s.flags.c
  | .c => s.flags.c

/-- The ALU function of an 8-bit operation, with A on the left (`43_alu8.md` R281 to R304). -/
def aluFn (o : AluOp) (l r : Byte) (carry : Bool) : AluResult 8 :=
  match o with
  | .add => Alu.add l r false
  | .adc => Alu.add l r carry
  | .sub => Alu.sub l r false
  | .sbc => Alu.sub l r carry
  | .and => Alu.and l r
  | .xor => Alu.xor l r
  | .or => Alu.or l r
  | .cp => Alu.sub l r false

/-- The flag tuple of an 8-bit operation (R281 to R304). -/
def aluTuple : AluOp → FlagTuple
  | .add => ⟨.alu, .zero, .alu, .alu⟩
  | .adc => ⟨.alu, .zero, .alu, .alu⟩
  | .sub => ⟨.alu, .one, .alu, .alu⟩
  | .sbc => ⟨.alu, .one, .alu, .alu⟩
  | .and => ⟨.alu, .zero, .one, .zero⟩
  | .xor => ⟨.alu, .zero, .zero, .zero⟩
  | .or => ⟨.alu, .zero, .zero, .zero⟩
  | .cp => ⟨.alu, .one, .alu, .alu⟩

/-- The ALU function of a prefixed rotate or shift (`45_rotate_shift.md` R335 to R350). -/
def shiftFn (o : ShiftOp) (v : Byte) (carry : Bool) : AluResult 8 :=
  match o with
  | .rlc => Alu.rotate .left v
  | .rrc => Alu.rotate .right v
  | .rl => Alu.rotateCarry .left v carry
  | .rr => Alu.rotateCarry .right v carry
  | .sla => Alu.shiftLeft v
  | .sra => Alu.shiftRightA v
  | .swap => Alu.swap v
  | .srl => Alu.shiftRightL v

/-- The flag tuple of a prefixed rotate or shift (R335 to R350). -/
def shiftTuple : ShiftOp → FlagTuple
  | .rlc => ⟨.alu, .zero, .zero, .alu⟩
  | .rrc => ⟨.alu, .zero, .zero, .alu⟩
  | .rl => ⟨.alu, .zero, .zero, .alu⟩
  | .rr => ⟨.alu, .zero, .zero, .alu⟩
  | .sla => ⟨.alu, .zero, .zero, .alu⟩
  | .sra => ⟨.alu, .zero, .zero, .alu⟩
  | .swap => ⟨.alu, .zero, .zero, .zero⟩
  | .srl => ⟨.alu, .zero, .zero, .alu⟩

end Sys2Proof.Machine
end

