-- ==== Sys2Proof/Machine/Ops.lean ====
section
/-! DEFINITION. The shared operations of the engine: the stack, the end of an instruction, the fault latch, and taking and
returning from an interrupt. -/

namespace Sys2Proof.Machine

/-- `Push16(v)` (`20_memory.md` R98). -/
def push16 (s : State) (v : Addr) : State :=
  busWrite16 (s.setSp (s.cpu.sp - 2#16)) (s.cpu.sp - 2#16) v

/-- The value `Pop16()` returns (R99). -/
def popValue (s : State) : Addr := busRead16 s s.cpu.sp

/-- The state after `Pop16()`: `sp` is 2 higher (R99). -/
def popped (s : State) : State := s.setSp (s.cpu.sp + 2#16)

/-- The descriptor of an operation in the machine's COST table (`30_encoding.md` R153). -/
def State.descriptor (s : State) (o : Op) : Descriptor := (s.params.cost.lookup o.row).getD o.descriptor

/-- The address of the next instruction: `clip16(pc + length)` (`30_encoding.md` R150). -/
def State.pcNext (s : State) (o : Op) : Addr := s.cpu.pc + BitVec.ofNat 16 (s.descriptor o).length

/-- The end of an instruction (R150): `pc <- target`, and the Cpu acts again after `cost` cycles. -/
def State.finish (s : State) (target : Addr) (cost : Nat) : State :=
  { s with cpu := { s.cpu with pc := target, next := some (s.cyc + cost) } }

/-- The end of an instruction that falls through at its base cost (R150, R151). -/
def State.retire (s : State) (o : Op) : State := s.finish (s.pcNext o) (s.descriptor o).cycles

/-- The end of an unconditional transfer of control (R150, R151). -/
def State.jump (s : State) (o : Op) (target : Addr) : State := s.finish target (s.descriptor o).cycles

/-- The end of a taken conditional transfer: base and extra cost (R150). -/
def State.jumpTaken (s : State) (o : Op) (target : Addr) : State :=
  s.finish target ((s.descriptor o).cycles + (s.descriptor o).extra)

/-- The master enable written (`60_exceptions.md` R423). -/
def State.setIme (s : State) (b : Bool) : State := { s with cpu := { s.cpu with ime := b } }

/-- `raise Fault(k)`: the latch is set and nothing else changes (R401). The machine's next state is the faulted one; no later
step is taken from it (log entry 7). -/
def raiseFault (k : Fault) (s : State) : State := { s with fault := some k }

/-- The chosen source's pending bit cleared and the master enable off (R410). -/
def acknowledge (i : Source) (s : State) : State :=
  { s with cpu := { s.cpu with ime := false, iflag := s.cpu.iflag &&& ~~~i.bit } }

/-- Taking the interrupt of source i at the current cycle (R410 to R412): `ime` off, the pending bit cleared, `pc` pushed, the
jump to the source's vector, INT_COST cycles. -/
def takeInterrupt (i : Source) (s : State) : State :=
  (push16 (acknowledge i s) s.cpu.pc).finish i.vector s.params.intCost

/-- `ServiceInterrupt(c)`: the interrupt of the lowest ready source (R408, R410); no change if none is ready, a case its only
caller excludes (R457). -/
def serviceInterrupt (s : State) : State :=
  match lowestReady s.ready with
  | some i => takeInterrupt i s
  | none => s

/-- Returning from an interrupt (R414, `47_control.md` R379): `pc <- Pop16(); ime <- 1`. -/
def returnFromInterrupt (s : State) (o : Op) : State := ((popped s).setIme true).jump o (popValue s)

end Sys2Proof.Machine
end

