-- ==== Sys2Proof/Machine/Alu16.lean ====
section
/-! DEFINITION. 16-bit arithmetic (`44_alu16.md` R320 to R324). -/

namespace Sys2Proof.Machine

/-- ADD HL,rr: `(v, f) <- add16H(x16[HL], src); x16[HL] <- v` (R320). -/
def addHlPair (p : R16sp) (s : State) : Result :=
  let x := Alu.add16H s.hl (s.r16sp p)
  .next (((s.setFlags ⟨.keep, .zero, .alu, .alu⟩ x.f).setPair .hl x.v).retire (.addHl p))

/-- INC rr: no flag (R321). -/
def incPair (p : R16sp) (s : State) : Result := .next ((s.setR16sp p (s.r16sp p + 1#16)).retire (.incPair p))

/-- DEC rr: no flag (R322). -/
def decPair (p : R16sp) (s : State) : Result := .next ((s.setR16sp p (s.r16sp p - 1#16)).retire (.decPair p))

/-- The sum of sp and the signed displacement, with the flags of the low byte (R323). -/
def spPlus (s : State) (e8 : Byte) : AluResult 16 := Alu.add16L s.cpu.sp (sext16 e8)

/-- The tuple of ADD SP,e8 and LD HL,SP+e8 (R323, R324). -/
def spTuple : FlagTuple := ⟨.zero, .zero, .alu, .alu⟩

/-- ADD SP,e8 (R323). -/
def addSpImm (e8 : Byte) (s : State) : Result :=
  let x := spPlus s e8
  .next (((s.setFlags spTuple x.f).setSp x.v).retire (.addSp e8))

/-- LD HL,SP+e8: `sp` is not changed (R324). -/
def loadHlSp (e8 : Byte) (s : State) : Result :=
  let x := spPlus s e8
  .next (((s.setFlags spTuple x.f).setPair .hl x.v).retire (.ldHlSp e8))

/-- ADD SP,e8 (R323). -/
def execAdd_SP_E8 (e8 : Byte) (s : State) : Result := addSpImm e8 s

/-- LD HL,SP+e8 (R324). -/
def execLd_HL_SPE8 (e8 : Byte) (s : State) : Result := loadHlSp e8 s

/-- INC BC (R321). -/
def execInc_BC (s : State) : Result := incPair .bc s

/-- ADD HL,BC (R320). -/
def execAdd_HL_BC (s : State) : Result := addHlPair .bc s

/-- DEC BC (R322). -/
def execDec_BC (s : State) : Result := decPair .bc s

/-- INC DE (R321). -/
def execInc_DE (s : State) : Result := incPair .de s

/-- ADD HL,DE (R320). -/
def execAdd_HL_DE (s : State) : Result := addHlPair .de s

/-- DEC DE (R322). -/
def execDec_DE (s : State) : Result := decPair .de s

/-- INC HL (R321). -/
def execInc_HL (s : State) : Result := incPair .hl s

/-- ADD HL,HL (R320). -/
def execAdd_HL_HL (s : State) : Result := addHlPair .hl s

/-- DEC HL (R322). -/
def execDec_HL (s : State) : Result := decPair .hl s

/-- INC SP (R321). -/
def execInc_SP (s : State) : Result := incPair .sp s

/-- ADD HL,SP (R320). -/
def execAdd_HL_SP (s : State) : Result := addHlPair .sp s

/-- DEC SP (R322). -/
def execDec_SP (s : State) : Result := decPair .sp s

end Sys2Proof.Machine
end

