-- ==== Sys2Proof/Machine/Alu8.lean ====
section
/-! DEFINITION. 8-bit arithmetic and logic (`43_alu8.md` R280 to R312). -/

namespace Sys2Proof.Machine

/-- An 8-bit operation on A and an operand: the flags, and A unless the operation is CP (R280). -/
def State.aluA (s : State) (o : AluOp) (operand : Byte) : State :=
  let r := aluFn o (s.r8 .a) operand s.flags.c
  let s1 := s.setFlags (aluTuple o) r.f
  match o with
  | .cp => s1
  | _ => s1.setR8 .a r.v

/-- `op A,r` (R281, R284, R287, R290, R293, R296, R299, R302). -/
def aluReg (o : AluOp) (r : R8) (s : State) : Result := .next ((s.aluA o (s.r8 r)).retire (.aluR o r))

/-- `op A,n8` (R282, R285, R288, R291, R294, R297, R300, R303). -/
def aluImm (o : AluOp) (n8 : Byte) (s : State) : Result := .next ((s.aluA o n8).retire (.aluN o n8))

/-- `op A,(HL)` (R283, R286, R289, R292, R295, R298, R301, R304). -/
def aluHl (o : AluOp) (s : State) : Result := .next ((s.aluA o s.atHl).retire (.aluHl o))

/-- The tuple of INC: C is kept (R305, R306). -/
def incTuple : FlagTuple := ⟨.alu, .zero, .alu, .keep⟩

/-- The tuple of DEC: C is kept (R307, R308). -/
def decTuple : FlagTuple := ⟨.alu, .one, .alu, .keep⟩

/-- INC r: `(v, f) <- add(x[r], 1); x[r] <- v` (R305). -/
def incReg (r : R8) (s : State) : Result :=
  let x := Alu.add (s.r8 r) 1#8 false
  .next (((s.setFlags incTuple x.f).setR8 r x.v).retire (.incR r))

/-- INC (HL): one read, one write at the same address (R306). -/
def incAtHl (s : State) : Result :=
  let x := Alu.add s.atHl 1#8 false
  .next ((busWrite (s.setFlags incTuple x.f) s.hl x.v).retire .incHl)

/-- DEC r: `(v, f) <- sub(x[r], 1); x[r] <- v` (R307). -/
def decReg (r : R8) (s : State) : Result :=
  let x := Alu.sub (s.r8 r) 1#8 false
  .next (((s.setFlags decTuple x.f).setR8 r x.v).retire (.decR r))

/-- DEC (HL): one read, one write at the same address (R308). -/
def decAtHl (s : State) : Result :=
  let x := Alu.sub s.atHl 1#8 false
  .next ((busWrite (s.setFlags decTuple x.f) s.hl x.v).retire .decHl)

/-- DAA (R309). -/
def decimalAdjust (s : State) : Result :=
  let x := Alu.bcdAdjust (s.r8 .a) s.flags.n s.flags.h s.flags.c
  .next (((s.setFlags ⟨.alu, .keep, .zero, .alu⟩ x.f).setR8 .a x.v).retire .daa)

/-- CPL: `x[A] <- ~x[A]` (R310). -/
def complementA (s : State) : Result :=
  .next (((s.setFlags ⟨.keep, .one, .one, .keep⟩ s.flags).setR8 .a (~~~s.r8 .a)).retire .cpl)

/-- SCF (R311). -/
def setCarry (s : State) : Result := .next ((s.setFlags ⟨.keep, .zero, .zero, .one⟩ s.flags).retire .scf)

/-- CCF: the complement of C takes the ALU's place in the tuple (R312). -/
def complementCarry (s : State) : Result :=
  .next ((s.setFlags ⟨.keep, .zero, .zero, .alu⟩ { s.flags with c := !s.flags.c }).retire .ccf)

/-- ADD A,n8 (R282). -/
def execAdd_A_N8 (n8 : Byte) (s : State) : Result := aluImm .add n8 s

/-- ADC A,n8 (R285). -/
def execAdc_A_N8 (n8 : Byte) (s : State) : Result := aluImm .adc n8 s

/-- SUB A,n8 (R288). -/
def execSub_A_N8 (n8 : Byte) (s : State) : Result := aluImm .sub n8 s

/-- SBC A,n8 (R291). -/
def execSbc_A_N8 (n8 : Byte) (s : State) : Result := aluImm .sbc n8 s

/-- AND A,n8 (R294). -/
def execAnd_A_N8 (n8 : Byte) (s : State) : Result := aluImm .and n8 s

/-- XOR A,n8 (R297). -/
def execXor_A_N8 (n8 : Byte) (s : State) : Result := aluImm .xor n8 s

/-- OR A,n8 (R300). -/
def execOr_A_N8 (n8 : Byte) (s : State) : Result := aluImm .or n8 s

/-- CP A,n8 (R303). -/
def execCp_A_N8 (n8 : Byte) (s : State) : Result := aluImm .cp n8 s

/-- INC B (R305). -/
def execInc_B (s : State) : Result := incReg .b s

/-- DEC B (R307). -/
def execDec_B (s : State) : Result := decReg .b s

/-- INC C (R305). -/
def execInc_C (s : State) : Result := incReg .c s

/-- DEC C (R307). -/
def execDec_C (s : State) : Result := decReg .c s

/-- INC D (R305). -/
def execInc_D (s : State) : Result := incReg .d s

/-- DEC D (R307). -/
def execDec_D (s : State) : Result := decReg .d s

/-- INC E (R305). -/
def execInc_E (s : State) : Result := incReg .e s

/-- DEC E (R307). -/
def execDec_E (s : State) : Result := decReg .e s

/-- INC H (R305). -/
def execInc_H (s : State) : Result := incReg .h s

/-- DEC H (R307). -/
def execDec_H (s : State) : Result := decReg .h s

/-- DAA (R309). -/
def execDaa (s : State) : Result := decimalAdjust s

/-- INC L (R305). -/
def execInc_L (s : State) : Result := incReg .l s

/-- DEC L (R307). -/
def execDec_L (s : State) : Result := decReg .l s

/-- CPL (R310). -/
def execCpl (s : State) : Result := complementA s

/-- INC (HL) (R306). -/
def execInc_AtHL (s : State) : Result := incAtHl s

/-- DEC (HL) (R308). -/
def execDec_AtHL (s : State) : Result := decAtHl s

/-- SCF (R311). -/
def execScf (s : State) : Result := setCarry s

/-- INC A (R305). -/
def execInc_A (s : State) : Result := incReg .a s

/-- DEC A (R307). -/
def execDec_A (s : State) : Result := decReg .a s

/-- CCF (R312). -/
def execCcf (s : State) : Result := complementCarry s

/-- ADD A,B (R281). -/
def execAdd_A_B (s : State) : Result := aluReg .add .b s

/-- ADD A,C (R281). -/
def execAdd_A_C (s : State) : Result := aluReg .add .c s

/-- ADD A,D (R281). -/
def execAdd_A_D (s : State) : Result := aluReg .add .d s

/-- ADD A,E (R281). -/
def execAdd_A_E (s : State) : Result := aluReg .add .e s

/-- ADD A,H (R281). -/
def execAdd_A_H (s : State) : Result := aluReg .add .h s

/-- ADD A,L (R281). -/
def execAdd_A_L (s : State) : Result := aluReg .add .l s

/-- ADD A,(HL) (R283). -/
def execAdd_A_AtHL (s : State) : Result := aluHl .add s

/-- ADD A,A (R281). -/
def execAdd_A_A (s : State) : Result := aluReg .add .a s

/-- ADC A,B (R284). -/
def execAdc_A_B (s : State) : Result := aluReg .adc .b s

/-- ADC A,C (R284). -/
def execAdc_A_C (s : State) : Result := aluReg .adc .c s

/-- ADC A,D (R284). -/
def execAdc_A_D (s : State) : Result := aluReg .adc .d s

/-- ADC A,E (R284). -/
def execAdc_A_E (s : State) : Result := aluReg .adc .e s

/-- ADC A,H (R284). -/
def execAdc_A_H (s : State) : Result := aluReg .adc .h s

/-- ADC A,L (R284). -/
def execAdc_A_L (s : State) : Result := aluReg .adc .l s

/-- ADC A,(HL) (R286). -/
def execAdc_A_AtHL (s : State) : Result := aluHl .adc s

/-- ADC A,A (R284). -/
def execAdc_A_A (s : State) : Result := aluReg .adc .a s

/-- SUB A,B (R287). -/
def execSub_A_B (s : State) : Result := aluReg .sub .b s

/-- SUB A,C (R287). -/
def execSub_A_C (s : State) : Result := aluReg .sub .c s

/-- SUB A,D (R287). -/
def execSub_A_D (s : State) : Result := aluReg .sub .d s

/-- SUB A,E (R287). -/
def execSub_A_E (s : State) : Result := aluReg .sub .e s

/-- SUB A,H (R287). -/
def execSub_A_H (s : State) : Result := aluReg .sub .h s

/-- SUB A,L (R287). -/
def execSub_A_L (s : State) : Result := aluReg .sub .l s

/-- SUB A,(HL) (R289). -/
def execSub_A_AtHL (s : State) : Result := aluHl .sub s

/-- SUB A,A (R287). -/
def execSub_A_A (s : State) : Result := aluReg .sub .a s

/-- SBC A,B (R290). -/
def execSbc_A_B (s : State) : Result := aluReg .sbc .b s

/-- SBC A,C (R290). -/
def execSbc_A_C (s : State) : Result := aluReg .sbc .c s

/-- SBC A,D (R290). -/
def execSbc_A_D (s : State) : Result := aluReg .sbc .d s

/-- SBC A,E (R290). -/
def execSbc_A_E (s : State) : Result := aluReg .sbc .e s

/-- SBC A,H (R290). -/
def execSbc_A_H (s : State) : Result := aluReg .sbc .h s

/-- SBC A,L (R290). -/
def execSbc_A_L (s : State) : Result := aluReg .sbc .l s

/-- SBC A,(HL) (R292). -/
def execSbc_A_AtHL (s : State) : Result := aluHl .sbc s

/-- SBC A,A (R290). -/
def execSbc_A_A (s : State) : Result := aluReg .sbc .a s

/-- AND A,B (R293). -/
def execAnd_A_B (s : State) : Result := aluReg .and .b s

/-- AND A,C (R293). -/
def execAnd_A_C (s : State) : Result := aluReg .and .c s

/-- AND A,D (R293). -/
def execAnd_A_D (s : State) : Result := aluReg .and .d s

/-- AND A,E (R293). -/
def execAnd_A_E (s : State) : Result := aluReg .and .e s

/-- AND A,H (R293). -/
def execAnd_A_H (s : State) : Result := aluReg .and .h s

/-- AND A,L (R293). -/
def execAnd_A_L (s : State) : Result := aluReg .and .l s

/-- AND A,(HL) (R295). -/
def execAnd_A_AtHL (s : State) : Result := aluHl .and s

/-- AND A,A (R293). -/
def execAnd_A_A (s : State) : Result := aluReg .and .a s

/-- XOR A,B (R296). -/
def execXor_A_B (s : State) : Result := aluReg .xor .b s

/-- XOR A,C (R296). -/
def execXor_A_C (s : State) : Result := aluReg .xor .c s

/-- XOR A,D (R296). -/
def execXor_A_D (s : State) : Result := aluReg .xor .d s

/-- XOR A,E (R296). -/
def execXor_A_E (s : State) : Result := aluReg .xor .e s

/-- XOR A,H (R296). -/
def execXor_A_H (s : State) : Result := aluReg .xor .h s

/-- XOR A,L (R296). -/
def execXor_A_L (s : State) : Result := aluReg .xor .l s

/-- XOR A,(HL) (R298). -/
def execXor_A_AtHL (s : State) : Result := aluHl .xor s

/-- XOR A,A (R296). -/
def execXor_A_A (s : State) : Result := aluReg .xor .a s

/-- OR A,B (R299). -/
def execOr_A_B (s : State) : Result := aluReg .or .b s

/-- OR A,C (R299). -/
def execOr_A_C (s : State) : Result := aluReg .or .c s

/-- OR A,D (R299). -/
def execOr_A_D (s : State) : Result := aluReg .or .d s

/-- OR A,E (R299). -/
def execOr_A_E (s : State) : Result := aluReg .or .e s

/-- OR A,H (R299). -/
def execOr_A_H (s : State) : Result := aluReg .or .h s

/-- OR A,L (R299). -/
def execOr_A_L (s : State) : Result := aluReg .or .l s

/-- OR A,(HL) (R301). -/
def execOr_A_AtHL (s : State) : Result := aluHl .or s

/-- OR A,A (R299). -/
def execOr_A_A (s : State) : Result := aluReg .or .a s

/-- CP A,B (R302). -/
def execCp_A_B (s : State) : Result := aluReg .cp .b s

/-- CP A,C (R302). -/
def execCp_A_C (s : State) : Result := aluReg .cp .c s

/-- CP A,D (R302). -/
def execCp_A_D (s : State) : Result := aluReg .cp .d s

/-- CP A,E (R302). -/
def execCp_A_E (s : State) : Result := aluReg .cp .e s

/-- CP A,H (R302). -/
def execCp_A_H (s : State) : Result := aluReg .cp .h s

/-- CP A,L (R302). -/
def execCp_A_L (s : State) : Result := aluReg .cp .l s

/-- CP A,(HL) (R304). -/
def execCp_A_AtHL (s : State) : Result := aluHl .cp s

/-- CP A,A (R302). -/
def execCp_A_A (s : State) : Result := aluReg .cp .a s

end Sys2Proof.Machine
end

