-- ==== Sys2Proof/Machine/Bit.lean ====
section
/-! DEFINITION. Single-bit instructions BIT, RES, SET (`46_bit.md` R360 to R365). -/

namespace Sys2Proof.Machine

/-- The tuple of BIT: C is kept (R360). -/
def bitTuple : FlagTuple := ⟨.alu, .zero, .one, .keep⟩

/-- BIT b,r (R360). -/
def testBitReg (b : Fin 8) (r : R8) (s : State) : Result :=
  .next ((s.setFlags bitTuple (Alu.testBit (s.r8 r) b).f).retire (.bitR b r))

/-- BIT b,(HL): nothing is written to memory (R361). -/
def testBitAtHl (b : Fin 8) (s : State) : Result :=
  .next ((s.setFlags bitTuple (Alu.testBit s.atHl b).f).retire (.bitHl b))

/-- RES b,r: `x[r] <- set(x[r], b, false)` (R362). -/
def resetBitReg (b : Fin 8) (r : R8) (s : State) : Result := .next ((s.setRegBit r.reg b false).retire (.resR b r))

/-- RES b,(HL): the write happens even if the bit was 0 (R363). -/
def resetBitAtHl (b : Fin 8) (s : State) : Result :=
  .next ((busWrite s s.hl (bitSet s.atHl b.val false)).retire (.resHl b))

/-- SET b,r: `x[r] <- set(x[r], b, true)` (R364). -/
def setBitReg (b : Fin 8) (r : R8) (s : State) : Result := .next ((s.setRegBit r.reg b true).retire (.setR b r))

/-- SET b,(HL) (R365). -/
def setBitAtHl (b : Fin 8) (s : State) : Result :=
  .next ((busWrite s s.hl (bitSet s.atHl b.val true)).retire (.setHl b))

/-- BIT 0,B (R360). -/
def execBit_0_B (s : State) : Result := testBitReg 0 .b s

/-- BIT 0,C (R360). -/
def execBit_0_C (s : State) : Result := testBitReg 0 .c s

/-- BIT 0,D (R360). -/
def execBit_0_D (s : State) : Result := testBitReg 0 .d s

/-- BIT 0,E (R360). -/
def execBit_0_E (s : State) : Result := testBitReg 0 .e s

/-- BIT 0,H (R360). -/
def execBit_0_H (s : State) : Result := testBitReg 0 .h s

/-- BIT 0,L (R360). -/
def execBit_0_L (s : State) : Result := testBitReg 0 .l s

/-- BIT 0,(HL) (R361). -/
def execBit_0_AtHL (s : State) : Result := testBitAtHl 0 s

/-- BIT 0,A (R360). -/
def execBit_0_A (s : State) : Result := testBitReg 0 .a s

/-- BIT 1,B (R360). -/
def execBit_1_B (s : State) : Result := testBitReg 1 .b s

/-- BIT 1,C (R360). -/
def execBit_1_C (s : State) : Result := testBitReg 1 .c s

/-- BIT 1,D (R360). -/
def execBit_1_D (s : State) : Result := testBitReg 1 .d s

/-- BIT 1,E (R360). -/
def execBit_1_E (s : State) : Result := testBitReg 1 .e s

/-- BIT 1,H (R360). -/
def execBit_1_H (s : State) : Result := testBitReg 1 .h s

/-- BIT 1,L (R360). -/
def execBit_1_L (s : State) : Result := testBitReg 1 .l s

/-- BIT 1,(HL) (R361). -/
def execBit_1_AtHL (s : State) : Result := testBitAtHl 1 s

/-- BIT 1,A (R360). -/
def execBit_1_A (s : State) : Result := testBitReg 1 .a s

/-- BIT 2,B (R360). -/
def execBit_2_B (s : State) : Result := testBitReg 2 .b s

/-- BIT 2,C (R360). -/
def execBit_2_C (s : State) : Result := testBitReg 2 .c s

/-- BIT 2,D (R360). -/
def execBit_2_D (s : State) : Result := testBitReg 2 .d s

/-- BIT 2,E (R360). -/
def execBit_2_E (s : State) : Result := testBitReg 2 .e s

/-- BIT 2,H (R360). -/
def execBit_2_H (s : State) : Result := testBitReg 2 .h s

/-- BIT 2,L (R360). -/
def execBit_2_L (s : State) : Result := testBitReg 2 .l s

/-- BIT 2,(HL) (R361). -/
def execBit_2_AtHL (s : State) : Result := testBitAtHl 2 s

/-- BIT 2,A (R360). -/
def execBit_2_A (s : State) : Result := testBitReg 2 .a s

/-- BIT 3,B (R360). -/
def execBit_3_B (s : State) : Result := testBitReg 3 .b s

/-- BIT 3,C (R360). -/
def execBit_3_C (s : State) : Result := testBitReg 3 .c s

/-- BIT 3,D (R360). -/
def execBit_3_D (s : State) : Result := testBitReg 3 .d s

/-- BIT 3,E (R360). -/
def execBit_3_E (s : State) : Result := testBitReg 3 .e s

/-- BIT 3,H (R360). -/
def execBit_3_H (s : State) : Result := testBitReg 3 .h s

/-- BIT 3,L (R360). -/
def execBit_3_L (s : State) : Result := testBitReg 3 .l s

/-- BIT 3,(HL) (R361). -/
def execBit_3_AtHL (s : State) : Result := testBitAtHl 3 s

/-- BIT 3,A (R360). -/
def execBit_3_A (s : State) : Result := testBitReg 3 .a s

/-- BIT 4,B (R360). -/
def execBit_4_B (s : State) : Result := testBitReg 4 .b s

/-- BIT 4,C (R360). -/
def execBit_4_C (s : State) : Result := testBitReg 4 .c s

/-- BIT 4,D (R360). -/
def execBit_4_D (s : State) : Result := testBitReg 4 .d s

/-- BIT 4,E (R360). -/
def execBit_4_E (s : State) : Result := testBitReg 4 .e s

/-- BIT 4,H (R360). -/
def execBit_4_H (s : State) : Result := testBitReg 4 .h s

/-- BIT 4,L (R360). -/
def execBit_4_L (s : State) : Result := testBitReg 4 .l s

/-- BIT 4,(HL) (R361). -/
def execBit_4_AtHL (s : State) : Result := testBitAtHl 4 s

/-- BIT 4,A (R360). -/
def execBit_4_A (s : State) : Result := testBitReg 4 .a s

/-- BIT 5,B (R360). -/
def execBit_5_B (s : State) : Result := testBitReg 5 .b s

/-- BIT 5,C (R360). -/
def execBit_5_C (s : State) : Result := testBitReg 5 .c s

/-- BIT 5,D (R360). -/
def execBit_5_D (s : State) : Result := testBitReg 5 .d s

/-- BIT 5,E (R360). -/
def execBit_5_E (s : State) : Result := testBitReg 5 .e s

/-- BIT 5,H (R360). -/
def execBit_5_H (s : State) : Result := testBitReg 5 .h s

/-- BIT 5,L (R360). -/
def execBit_5_L (s : State) : Result := testBitReg 5 .l s

/-- BIT 5,(HL) (R361). -/
def execBit_5_AtHL (s : State) : Result := testBitAtHl 5 s

/-- BIT 5,A (R360). -/
def execBit_5_A (s : State) : Result := testBitReg 5 .a s

/-- BIT 6,B (R360). -/
def execBit_6_B (s : State) : Result := testBitReg 6 .b s

/-- BIT 6,C (R360). -/
def execBit_6_C (s : State) : Result := testBitReg 6 .c s

/-- BIT 6,D (R360). -/
def execBit_6_D (s : State) : Result := testBitReg 6 .d s

/-- BIT 6,E (R360). -/
def execBit_6_E (s : State) : Result := testBitReg 6 .e s

/-- BIT 6,H (R360). -/
def execBit_6_H (s : State) : Result := testBitReg 6 .h s

/-- BIT 6,L (R360). -/
def execBit_6_L (s : State) : Result := testBitReg 6 .l s

/-- BIT 6,(HL) (R361). -/
def execBit_6_AtHL (s : State) : Result := testBitAtHl 6 s

/-- BIT 6,A (R360). -/
def execBit_6_A (s : State) : Result := testBitReg 6 .a s

/-- BIT 7,B (R360). -/
def execBit_7_B (s : State) : Result := testBitReg 7 .b s

/-- BIT 7,C (R360). -/
def execBit_7_C (s : State) : Result := testBitReg 7 .c s

/-- BIT 7,D (R360). -/
def execBit_7_D (s : State) : Result := testBitReg 7 .d s

/-- BIT 7,E (R360). -/
def execBit_7_E (s : State) : Result := testBitReg 7 .e s

/-- BIT 7,H (R360). -/
def execBit_7_H (s : State) : Result := testBitReg 7 .h s

/-- BIT 7,L (R360). -/
def execBit_7_L (s : State) : Result := testBitReg 7 .l s

/-- BIT 7,(HL) (R361). -/
def execBit_7_AtHL (s : State) : Result := testBitAtHl 7 s

/-- BIT 7,A (R360). -/
def execBit_7_A (s : State) : Result := testBitReg 7 .a s

/-- RES 0,B (R362). -/
def execRes_0_B (s : State) : Result := resetBitReg 0 .b s

/-- RES 0,C (R362). -/
def execRes_0_C (s : State) : Result := resetBitReg 0 .c s

/-- RES 0,D (R362). -/
def execRes_0_D (s : State) : Result := resetBitReg 0 .d s

/-- RES 0,E (R362). -/
def execRes_0_E (s : State) : Result := resetBitReg 0 .e s

/-- RES 0,H (R362). -/
def execRes_0_H (s : State) : Result := resetBitReg 0 .h s

/-- RES 0,L (R362). -/
def execRes_0_L (s : State) : Result := resetBitReg 0 .l s

/-- RES 0,(HL) (R363). -/
def execRes_0_AtHL (s : State) : Result := resetBitAtHl 0 s

/-- RES 0,A (R362). -/
def execRes_0_A (s : State) : Result := resetBitReg 0 .a s

/-- RES 1,B (R362). -/
def execRes_1_B (s : State) : Result := resetBitReg 1 .b s

/-- RES 1,C (R362). -/
def execRes_1_C (s : State) : Result := resetBitReg 1 .c s

/-- RES 1,D (R362). -/
def execRes_1_D (s : State) : Result := resetBitReg 1 .d s

/-- RES 1,E (R362). -/
def execRes_1_E (s : State) : Result := resetBitReg 1 .e s

/-- RES 1,H (R362). -/
def execRes_1_H (s : State) : Result := resetBitReg 1 .h s

/-- RES 1,L (R362). -/
def execRes_1_L (s : State) : Result := resetBitReg 1 .l s

/-- RES 1,(HL) (R363). -/
def execRes_1_AtHL (s : State) : Result := resetBitAtHl 1 s

/-- RES 1,A (R362). -/
def execRes_1_A (s : State) : Result := resetBitReg 1 .a s

/-- RES 2,B (R362). -/
def execRes_2_B (s : State) : Result := resetBitReg 2 .b s

/-- RES 2,C (R362). -/
def execRes_2_C (s : State) : Result := resetBitReg 2 .c s

/-- RES 2,D (R362). -/
def execRes_2_D (s : State) : Result := resetBitReg 2 .d s

/-- RES 2,E (R362). -/
def execRes_2_E (s : State) : Result := resetBitReg 2 .e s

/-- RES 2,H (R362). -/
def execRes_2_H (s : State) : Result := resetBitReg 2 .h s

/-- RES 2,L (R362). -/
def execRes_2_L (s : State) : Result := resetBitReg 2 .l s

/-- RES 2,(HL) (R363). -/
def execRes_2_AtHL (s : State) : Result := resetBitAtHl 2 s

/-- RES 2,A (R362). -/
def execRes_2_A (s : State) : Result := resetBitReg 2 .a s

/-- RES 3,B (R362). -/
def execRes_3_B (s : State) : Result := resetBitReg 3 .b s

/-- RES 3,C (R362). -/
def execRes_3_C (s : State) : Result := resetBitReg 3 .c s

/-- RES 3,D (R362). -/
def execRes_3_D (s : State) : Result := resetBitReg 3 .d s

/-- RES 3,E (R362). -/
def execRes_3_E (s : State) : Result := resetBitReg 3 .e s

/-- RES 3,H (R362). -/
def execRes_3_H (s : State) : Result := resetBitReg 3 .h s

/-- RES 3,L (R362). -/
def execRes_3_L (s : State) : Result := resetBitReg 3 .l s

/-- RES 3,(HL) (R363). -/
def execRes_3_AtHL (s : State) : Result := resetBitAtHl 3 s

/-- RES 3,A (R362). -/
def execRes_3_A (s : State) : Result := resetBitReg 3 .a s

/-- RES 4,B (R362). -/
def execRes_4_B (s : State) : Result := resetBitReg 4 .b s

/-- RES 4,C (R362). -/
def execRes_4_C (s : State) : Result := resetBitReg 4 .c s

/-- RES 4,D (R362). -/
def execRes_4_D (s : State) : Result := resetBitReg 4 .d s

/-- RES 4,E (R362). -/
def execRes_4_E (s : State) : Result := resetBitReg 4 .e s

/-- RES 4,H (R362). -/
def execRes_4_H (s : State) : Result := resetBitReg 4 .h s

/-- RES 4,L (R362). -/
def execRes_4_L (s : State) : Result := resetBitReg 4 .l s

/-- RES 4,(HL) (R363). -/
def execRes_4_AtHL (s : State) : Result := resetBitAtHl 4 s

/-- RES 4,A (R362). -/
def execRes_4_A (s : State) : Result := resetBitReg 4 .a s

/-- RES 5,B (R362). -/
def execRes_5_B (s : State) : Result := resetBitReg 5 .b s

/-- RES 5,C (R362). -/
def execRes_5_C (s : State) : Result := resetBitReg 5 .c s

/-- RES 5,D (R362). -/
def execRes_5_D (s : State) : Result := resetBitReg 5 .d s

/-- RES 5,E (R362). -/
def execRes_5_E (s : State) : Result := resetBitReg 5 .e s

/-- RES 5,H (R362). -/
def execRes_5_H (s : State) : Result := resetBitReg 5 .h s

/-- RES 5,L (R362). -/
def execRes_5_L (s : State) : Result := resetBitReg 5 .l s

/-- RES 5,(HL) (R363). -/
def execRes_5_AtHL (s : State) : Result := resetBitAtHl 5 s

/-- RES 5,A (R362). -/
def execRes_5_A (s : State) : Result := resetBitReg 5 .a s

/-- RES 6,B (R362). -/
def execRes_6_B (s : State) : Result := resetBitReg 6 .b s

/-- RES 6,C (R362). -/
def execRes_6_C (s : State) : Result := resetBitReg 6 .c s

/-- RES 6,D (R362). -/
def execRes_6_D (s : State) : Result := resetBitReg 6 .d s

/-- RES 6,E (R362). -/
def execRes_6_E (s : State) : Result := resetBitReg 6 .e s

/-- RES 6,H (R362). -/
def execRes_6_H (s : State) : Result := resetBitReg 6 .h s

/-- RES 6,L (R362). -/
def execRes_6_L (s : State) : Result := resetBitReg 6 .l s

/-- RES 6,(HL) (R363). -/
def execRes_6_AtHL (s : State) : Result := resetBitAtHl 6 s

/-- RES 6,A (R362). -/
def execRes_6_A (s : State) : Result := resetBitReg 6 .a s

/-- RES 7,B (R362). -/
def execRes_7_B (s : State) : Result := resetBitReg 7 .b s

/-- RES 7,C (R362). -/
def execRes_7_C (s : State) : Result := resetBitReg 7 .c s

/-- RES 7,D (R362). -/
def execRes_7_D (s : State) : Result := resetBitReg 7 .d s

/-- RES 7,E (R362). -/
def execRes_7_E (s : State) : Result := resetBitReg 7 .e s

/-- RES 7,H (R362). -/
def execRes_7_H (s : State) : Result := resetBitReg 7 .h s

/-- RES 7,L (R362). -/
def execRes_7_L (s : State) : Result := resetBitReg 7 .l s

/-- RES 7,(HL) (R363). -/
def execRes_7_AtHL (s : State) : Result := resetBitAtHl 7 s

/-- RES 7,A (R362). -/
def execRes_7_A (s : State) : Result := resetBitReg 7 .a s

/-- SET 0,B (R364). -/
def execSet_0_B (s : State) : Result := setBitReg 0 .b s

/-- SET 0,C (R364). -/
def execSet_0_C (s : State) : Result := setBitReg 0 .c s

/-- SET 0,D (R364). -/
def execSet_0_D (s : State) : Result := setBitReg 0 .d s

/-- SET 0,E (R364). -/
def execSet_0_E (s : State) : Result := setBitReg 0 .e s

/-- SET 0,H (R364). -/
def execSet_0_H (s : State) : Result := setBitReg 0 .h s

/-- SET 0,L (R364). -/
def execSet_0_L (s : State) : Result := setBitReg 0 .l s

/-- SET 0,(HL) (R365). -/
def execSet_0_AtHL (s : State) : Result := setBitAtHl 0 s

/-- SET 0,A (R364). -/
def execSet_0_A (s : State) : Result := setBitReg 0 .a s

/-- SET 1,B (R364). -/
def execSet_1_B (s : State) : Result := setBitReg 1 .b s

/-- SET 1,C (R364). -/
def execSet_1_C (s : State) : Result := setBitReg 1 .c s

/-- SET 1,D (R364). -/
def execSet_1_D (s : State) : Result := setBitReg 1 .d s

/-- SET 1,E (R364). -/
def execSet_1_E (s : State) : Result := setBitReg 1 .e s

/-- SET 1,H (R364). -/
def execSet_1_H (s : State) : Result := setBitReg 1 .h s

/-- SET 1,L (R364). -/
def execSet_1_L (s : State) : Result := setBitReg 1 .l s

/-- SET 1,(HL) (R365). -/
def execSet_1_AtHL (s : State) : Result := setBitAtHl 1 s

/-- SET 1,A (R364). -/
def execSet_1_A (s : State) : Result := setBitReg 1 .a s

/-- SET 2,B (R364). -/
def execSet_2_B (s : State) : Result := setBitReg 2 .b s

/-- SET 2,C (R364). -/
def execSet_2_C (s : State) : Result := setBitReg 2 .c s

/-- SET 2,D (R364). -/
def execSet_2_D (s : State) : Result := setBitReg 2 .d s

/-- SET 2,E (R364). -/
def execSet_2_E (s : State) : Result := setBitReg 2 .e s

/-- SET 2,H (R364). -/
def execSet_2_H (s : State) : Result := setBitReg 2 .h s

/-- SET 2,L (R364). -/
def execSet_2_L (s : State) : Result := setBitReg 2 .l s

/-- SET 2,(HL) (R365). -/
def execSet_2_AtHL (s : State) : Result := setBitAtHl 2 s

/-- SET 2,A (R364). -/
def execSet_2_A (s : State) : Result := setBitReg 2 .a s

/-- SET 3,B (R364). -/
def execSet_3_B (s : State) : Result := setBitReg 3 .b s

/-- SET 3,C (R364). -/
def execSet_3_C (s : State) : Result := setBitReg 3 .c s

/-- SET 3,D (R364). -/
def execSet_3_D (s : State) : Result := setBitReg 3 .d s

/-- SET 3,E (R364). -/
def execSet_3_E (s : State) : Result := setBitReg 3 .e s

/-- SET 3,H (R364). -/
def execSet_3_H (s : State) : Result := setBitReg 3 .h s

/-- SET 3,L (R364). -/
def execSet_3_L (s : State) : Result := setBitReg 3 .l s

/-- SET 3,(HL) (R365). -/
def execSet_3_AtHL (s : State) : Result := setBitAtHl 3 s

/-- SET 3,A (R364). -/
def execSet_3_A (s : State) : Result := setBitReg 3 .a s

/-- SET 4,B (R364). -/
def execSet_4_B (s : State) : Result := setBitReg 4 .b s

/-- SET 4,C (R364). -/
def execSet_4_C (s : State) : Result := setBitReg 4 .c s

/-- SET 4,D (R364). -/
def execSet_4_D (s : State) : Result := setBitReg 4 .d s

/-- SET 4,E (R364). -/
def execSet_4_E (s : State) : Result := setBitReg 4 .e s

/-- SET 4,H (R364). -/
def execSet_4_H (s : State) : Result := setBitReg 4 .h s

/-- SET 4,L (R364). -/
def execSet_4_L (s : State) : Result := setBitReg 4 .l s

/-- SET 4,(HL) (R365). -/
def execSet_4_AtHL (s : State) : Result := setBitAtHl 4 s

/-- SET 4,A (R364). -/
def execSet_4_A (s : State) : Result := setBitReg 4 .a s

/-- SET 5,B (R364). -/
def execSet_5_B (s : State) : Result := setBitReg 5 .b s

/-- SET 5,C (R364). -/
def execSet_5_C (s : State) : Result := setBitReg 5 .c s

/-- SET 5,D (R364). -/
def execSet_5_D (s : State) : Result := setBitReg 5 .d s

/-- SET 5,E (R364). -/
def execSet_5_E (s : State) : Result := setBitReg 5 .e s

/-- SET 5,H (R364). -/
def execSet_5_H (s : State) : Result := setBitReg 5 .h s

/-- SET 5,L (R364). -/
def execSet_5_L (s : State) : Result := setBitReg 5 .l s

/-- SET 5,(HL) (R365). -/
def execSet_5_AtHL (s : State) : Result := setBitAtHl 5 s

/-- SET 5,A (R364). -/
def execSet_5_A (s : State) : Result := setBitReg 5 .a s

/-- SET 6,B (R364). -/
def execSet_6_B (s : State) : Result := setBitReg 6 .b s

/-- SET 6,C (R364). -/
def execSet_6_C (s : State) : Result := setBitReg 6 .c s

/-- SET 6,D (R364). -/
def execSet_6_D (s : State) : Result := setBitReg 6 .d s

/-- SET 6,E (R364). -/
def execSet_6_E (s : State) : Result := setBitReg 6 .e s

/-- SET 6,H (R364). -/
def execSet_6_H (s : State) : Result := setBitReg 6 .h s

/-- SET 6,L (R364). -/
def execSet_6_L (s : State) : Result := setBitReg 6 .l s

/-- SET 6,(HL) (R365). -/
def execSet_6_AtHL (s : State) : Result := setBitAtHl 6 s

/-- SET 6,A (R364). -/
def execSet_6_A (s : State) : Result := setBitReg 6 .a s

/-- SET 7,B (R364). -/
def execSet_7_B (s : State) : Result := setBitReg 7 .b s

/-- SET 7,C (R364). -/
def execSet_7_C (s : State) : Result := setBitReg 7 .c s

/-- SET 7,D (R364). -/
def execSet_7_D (s : State) : Result := setBitReg 7 .d s

/-- SET 7,E (R364). -/
def execSet_7_E (s : State) : Result := setBitReg 7 .e s

/-- SET 7,H (R364). -/
def execSet_7_H (s : State) : Result := setBitReg 7 .h s

/-- SET 7,L (R364). -/
def execSet_7_L (s : State) : Result := setBitReg 7 .l s

/-- SET 7,(HL) (R365). -/
def execSet_7_AtHL (s : State) : Result := setBitAtHl 7 s

/-- SET 7,A (R364). -/
def execSet_7_A (s : State) : Result := setBitReg 7 .a s

end Sys2Proof.Machine
end

