-- ==== Sys2Proof/Machine/Control.lean ====
section
/-! DEFINITION. Jumps, calls, returns and restarts (`47_control.md` R370 to R380). None writes a flag. -/

namespace Sys2Proof.Machine

/-- JP n16 (R370). -/
def jumpAbs (n16 : Addr) (s : State) : Result := .next (s.jump (.jp n16) n16)

/-- JP cc,n16 (R371). -/
def jumpAbsIf (cc : Cond) (n16 : Addr) (s : State) : Result :=
  if s.cond cc then .next (s.jumpTaken (.jpCc cc n16) n16) else .next (s.retire (.jpCc cc n16))

/-- JP HL: no memory is read (R372). -/
def jumpHl (s : State) : Result := .next (s.jump .jpHl s.hl)

/-- JR e8: relative to the next instruction (R373). -/
def jumpRel (e8 : Byte) (s : State) : Result := .next (s.jump (.jr e8) (s.pcNext (.jr e8) + sext16 e8))

/-- JR cc,e8 (R374). -/
def jumpRelIf (cc : Cond) (e8 : Byte) (s : State) : Result :=
  if s.cond cc then .next (s.jumpTaken (.jrCc cc e8) (s.pcNext (.jrCc cc e8) + sext16 e8))
  else .next (s.retire (.jrCc cc e8))

/-- CALL n16: the address of the next instruction is pushed (R375). -/
def callAbs (n16 : Addr) (s : State) : Result := .next ((push16 s (s.pcNext (.call n16))).jump (.call n16) n16)

/-- CALL cc,n16: nothing is pushed if the condition is false (R376). -/
def callAbsIf (cc : Cond) (n16 : Addr) (s : State) : Result :=
  if s.cond cc then .next ((push16 s (s.pcNext (.callCc cc n16))).jumpTaken (.callCc cc n16) n16)
  else .next (s.retire (.callCc cc n16))

/-- RET: `pc <- Pop16()` (R377). -/
def returnSub (s : State) : Result := .next ((popped s).jump .ret (popValue s))

/-- RET cc (R378). -/
def returnIf (cc : Cond) (s : State) : Result :=
  if s.cond cc then .next ((popped s).jumpTaken (.retCc cc) (popValue s)) else .next (s.retire (.retCc cc))

/-- RETI: `pc <- Pop16(); ime <- 1` (R379). -/
def returnInterrupt (s : State) : Result := .next (returnFromInterrupt s .reti)

/-- RST's target 8 * y (R138). -/
def rstTarget (y : Fin 8) : Addr := BitVec.ofNat 16 (8 * y.val)

/-- RST 8*y (R380). -/
def restart (y : Fin 8) (s : State) : Result := .next ((push16 s (s.pcNext (.rst y))).jump (.rst y) (rstTarget y))

/-- JR e8 (R373). -/
def execJr_E8 (e8 : Byte) (s : State) : Result := jumpRel e8 s

/-- JR NZ,e8 (R374). -/
def execJr_NZ_E8 (e8 : Byte) (s : State) : Result := jumpRelIf .nz e8 s

/-- JR Z,e8 (R374). -/
def execJr_Z_E8 (e8 : Byte) (s : State) : Result := jumpRelIf .z e8 s

/-- JR NC,e8 (R374). -/
def execJr_NC_E8 (e8 : Byte) (s : State) : Result := jumpRelIf .nc e8 s

/-- JR C,e8 (R374). -/
def execJr_C_E8 (e8 : Byte) (s : State) : Result := jumpRelIf .c e8 s

/-- JP NZ,n16 (R371). -/
def execJp_NZ_N16 (n16 : Addr) (s : State) : Result := jumpAbsIf .nz n16 s

/-- JP n16 (R370). -/
def execJp_N16 (n16 : Addr) (s : State) : Result := jumpAbs n16 s

/-- CALL NZ,n16 (R376). -/
def execCall_NZ_N16 (n16 : Addr) (s : State) : Result := callAbsIf .nz n16 s

/-- JP Z,n16 (R371). -/
def execJp_Z_N16 (n16 : Addr) (s : State) : Result := jumpAbsIf .z n16 s

/-- CALL Z,n16 (R376). -/
def execCall_Z_N16 (n16 : Addr) (s : State) : Result := callAbsIf .z n16 s

/-- CALL n16 (R375). -/
def execCall_N16 (n16 : Addr) (s : State) : Result := callAbs n16 s

/-- JP NC,n16 (R371). -/
def execJp_NC_N16 (n16 : Addr) (s : State) : Result := jumpAbsIf .nc n16 s

/-- CALL NC,n16 (R376). -/
def execCall_NC_N16 (n16 : Addr) (s : State) : Result := callAbsIf .nc n16 s

/-- JP C,n16 (R371). -/
def execJp_C_N16 (n16 : Addr) (s : State) : Result := jumpAbsIf .c n16 s

/-- CALL C,n16 (R376). -/
def execCall_C_N16 (n16 : Addr) (s : State) : Result := callAbsIf .c n16 s

/-- RET NZ (R378). -/
def execRet_NZ (s : State) : Result := returnIf .nz s

/-- RST 0x00 (R380). -/
def execRst_00 (s : State) : Result := restart 0 s

/-- RET Z (R378). -/
def execRet_Z (s : State) : Result := returnIf .z s

/-- RET (R377). -/
def execRet (s : State) : Result := returnSub s

/-- RST 0x08 (R380). -/
def execRst_08 (s : State) : Result := restart 1 s

/-- RET NC (R378). -/
def execRet_NC (s : State) : Result := returnIf .nc s

/-- RST 0x10 (R380). -/
def execRst_10 (s : State) : Result := restart 2 s

/-- RET C (R378). -/
def execRet_C (s : State) : Result := returnIf .c s

/-- RETI (R379). -/
def execReti (s : State) : Result := returnInterrupt s

/-- RST 0x18 (R380). -/
def execRst_18 (s : State) : Result := restart 3 s

/-- RST 0x20 (R380). -/
def execRst_20 (s : State) : Result := restart 4 s

/-- JP HL (R372). -/
def execJp_HL (s : State) : Result := jumpHl s

/-- RST 0x28 (R380). -/
def execRst_28 (s : State) : Result := restart 5 s

/-- RST 0x30 (R380). -/
def execRst_30 (s : State) : Result := restart 6 s

/-- RST 0x38 (R380). -/
def execRst_38 (s : State) : Result := restart 7 s

end Sys2Proof.Machine
end

