-- ==== Sys2Proof/Machine/Load16.lean ====
section
/-! DEFINITION. The 16-bit loads and the stack (`42_load16_stack.md` R260 to R264). -/

namespace Sys2Proof.Machine

/-- LD rr,n16 (R260). -/
def loadPairImm (p : R16sp) (n16 : Addr) (s : State) : Result := .next ((s.setR16sp p n16).retire (.ldPairN p n16))

/-- LD SP,HL: `sp <- x16[HL]` (R261). -/
def loadSpHl (s : State) : Result := .next ((s.setSp s.hl).retire .ldSpHl)

/-- LD (n16),SP: `Write16(Imm16, sp)`, low byte first (R262). -/
def storeSpAbs (n16 : Addr) (s : State) : Result := .next ((busWrite16 s n16 s.cpu.sp).retire (.ldNnSp n16))

/-- PUSH rr: `Push16(x16[rr])` (R263). -/
def pushPair (p : Pair) (s : State) : Result := .next ((push16 s (s.pair p)).retire (.push p))

/-- POP rr: `x16[rr] <- Pop16()`; for AF the flags come from the popped byte (R264). -/
def popPair (p : Pair) (s : State) : Result := .next (((popped s).setPair p (popValue s)).retire (.pop p))

/-- LD BC,n16 (R260). -/
def execLd_BC_N16 (n16 : Addr) (s : State) : Result := loadPairImm .bc n16 s

/-- LD (n16),SP (R262). -/
def execLd_AtN16_SP (n16 : Addr) (s : State) : Result := storeSpAbs n16 s

/-- LD DE,n16 (R260). -/
def execLd_DE_N16 (n16 : Addr) (s : State) : Result := loadPairImm .de n16 s

/-- LD HL,n16 (R260). -/
def execLd_HL_N16 (n16 : Addr) (s : State) : Result := loadPairImm .hl n16 s

/-- LD SP,n16 (R260). -/
def execLd_SP_N16 (n16 : Addr) (s : State) : Result := loadPairImm .sp n16 s

/-- POP BC (R264). -/
def execPop_BC (s : State) : Result := popPair .bc s

/-- PUSH BC (R263). -/
def execPush_BC (s : State) : Result := pushPair .bc s

/-- POP DE (R264). -/
def execPop_DE (s : State) : Result := popPair .de s

/-- PUSH DE (R263). -/
def execPush_DE (s : State) : Result := pushPair .de s

/-- POP HL (R264). -/
def execPop_HL (s : State) : Result := popPair .hl s

/-- PUSH HL (R263). -/
def execPush_HL (s : State) : Result := pushPair .hl s

/-- POP AF (R264). -/
def execPop_AF (s : State) : Result := popPair .af s

/-- PUSH AF (R263). -/
def execPush_AF (s : State) : Result := pushPair .af s

/-- LD SP,HL (R261). -/
def execLd_SP_HL (s : State) : Result := loadSpHl s

end Sys2Proof.Machine
end

