-- ==== Sys2Proof/Machine/Load8.lean ====
section
/-! DEFINITION. The 8-bit loads (`41_load8.md` R230 to R249): the shared operations, then one meaning per row. None writes a flag. -/

namespace Sys2Proof.Machine

/-- LD r,r': `x[r] <- x[r']` (R231). -/
def loadRegReg (dst src : R8) (s : State) : Result := .next ((s.setR8 dst (s.r8 src)).retire (.ldRR dst src))

/-- LD r,n8: `x[r] <- Imm8` (R232). -/
def loadRegImm (dst : R8) (n8 : Byte) (s : State) : Result := .next ((s.setR8 dst n8).retire (.ldRN dst n8))

/-- LD r,(HL): `x[r] <- Read8(x16[HL])` (R233). -/
def loadRegHl (dst : R8) (s : State) : Result := .next ((s.setR8 dst s.atHl).retire (.ldRHl dst))

/-- LD (HL),r: `Write8(x16[HL], x[r])` (R234). -/
def storeHlReg (r : R8) (s : State) : Result := .next ((busWrite s s.hl (s.r8 r)).retire (.ldHlR r))

/-- LD (HL),n8: `Write8(x16[HL], Imm8)` (R235). -/
def storeHlImm (n8 : Byte) (s : State) : Result := .next ((busWrite s s.hl n8).retire (.ldHlN n8))

/-- LD A,(BC), (DE), (HL+), (HL-): `x[A] <- Read8(ptr)`, then HL steps (R236, R237, R240, R241). -/
def loadAMem (m : R16mem) (s : State) : Result :=
  .next (((s.setR8 .a (busRead s (s.memPtr m))).stepHl m).retire (.ldAMem m))

/-- LD (BC), (DE), (HL+), (HL-),A: `Write8(ptr, x[A])`, then HL steps (R238, R239, R242, R243). -/
def storeMemA (m : R16mem) (s : State) : Result :=
  .next (((busWrite s (s.memPtr m) (s.r8 .a)).stepHl m).retire (.ldMemA m))

/-- LDH A,(n8): `x[A] <- Read8(0xFF00 + Imm8)` (R244). -/
def loadAHigh (n8 : Byte) (s : State) : Result := .next ((s.setR8 .a (busRead s (highPage n8))).retire (.ldhAN n8))

/-- LDH (n8),A: `Write8(0xFF00 + Imm8, x[A])` (R245). -/
def storeAHigh (n8 : Byte) (s : State) : Result := .next ((busWrite s (highPage n8) (s.r8 .a)).retire (.ldhNA n8))

/-- LDH A,(C): `x[A] <- Read8(0xFF00 + x[C])` (R246). -/
def loadAHighC (s : State) : Result := .next ((s.setR8 .a (busRead s (highPage (s.r8 .c)))).retire .ldhAC)

/-- LDH (C),A: `Write8(0xFF00 + x[C], x[A])` (R247). -/
def storeAHighC (s : State) : Result := .next ((busWrite s (highPage (s.r8 .c)) (s.r8 .a)).retire .ldhCA)

/-- LD A,(n16): `x[A] <- Read8(Imm16)` (R248). -/
def loadAAbs (n16 : Addr) (s : State) : Result := .next ((s.setR8 .a (busRead s n16)).retire (.ldANn n16))

/-- LD (n16),A: `Write8(Imm16, x[A])` (R249). -/
def storeAAbs (n16 : Addr) (s : State) : Result := .next ((busWrite s n16 (s.r8 .a)).retire (.ldNnA n16))

/-- LD B,n8 (R232). -/
def execLd_B_N8 (n8 : Byte) (s : State) : Result := loadRegImm .b n8 s

/-- LD C,n8 (R232). -/
def execLd_C_N8 (n8 : Byte) (s : State) : Result := loadRegImm .c n8 s

/-- LD D,n8 (R232). -/
def execLd_D_N8 (n8 : Byte) (s : State) : Result := loadRegImm .d n8 s

/-- LD E,n8 (R232). -/
def execLd_E_N8 (n8 : Byte) (s : State) : Result := loadRegImm .e n8 s

/-- LD H,n8 (R232). -/
def execLd_H_N8 (n8 : Byte) (s : State) : Result := loadRegImm .h n8 s

/-- LD L,n8 (R232). -/
def execLd_L_N8 (n8 : Byte) (s : State) : Result := loadRegImm .l n8 s

/-- LD (HL),n8 (R235). -/
def execLd_AtHL_N8 (n8 : Byte) (s : State) : Result := storeHlImm n8 s

/-- LD A,n8 (R232). -/
def execLd_A_N8 (n8 : Byte) (s : State) : Result := loadRegImm .a n8 s

/-- LDH (n8),A (R245). -/
def execLdh_AtN8_A (n8 : Byte) (s : State) : Result := storeAHigh n8 s

/-- LD (n16),A (R249). -/
def execLd_AtN16_A (n16 : Addr) (s : State) : Result := storeAAbs n16 s

/-- LDH A,(n8) (R244). -/
def execLdh_A_AtN8 (n8 : Byte) (s : State) : Result := loadAHigh n8 s

/-- LD A,(n16) (R248). -/
def execLd_A_AtN16 (n16 : Addr) (s : State) : Result := loadAAbs n16 s

/-- LD (BC),A (R238). -/
def execLd_AtBC_A (s : State) : Result := storeMemA .bc s

/-- LD A,(BC) (R236). -/
def execLd_A_AtBC (s : State) : Result := loadAMem .bc s

/-- LD (DE),A (R239). -/
def execLd_AtDE_A (s : State) : Result := storeMemA .de s

/-- LD A,(DE) (R237). -/
def execLd_A_AtDE (s : State) : Result := loadAMem .de s

/-- LD (HL+),A (R242). -/
def execLd_AtHLInc_A (s : State) : Result := storeMemA .hlInc s

/-- LD A,(HL+) (R240). -/
def execLd_A_AtHLInc (s : State) : Result := loadAMem .hlInc s

/-- LD (HL-),A (R243). -/
def execLd_AtHLDec_A (s : State) : Result := storeMemA .hlDec s

/-- LD A,(HL-) (R241). -/
def execLd_A_AtHLDec (s : State) : Result := loadAMem .hlDec s

/-- LD B,B (R231). -/
def execLd_B_B (s : State) : Result := loadRegReg .b .b s

/-- LD B,C (R231). -/
def execLd_B_C (s : State) : Result := loadRegReg .b .c s

/-- LD B,D (R231). -/
def execLd_B_D (s : State) : Result := loadRegReg .b .d s

/-- LD B,E (R231). -/
def execLd_B_E (s : State) : Result := loadRegReg .b .e s

/-- LD B,H (R231). -/
def execLd_B_H (s : State) : Result := loadRegReg .b .h s

/-- LD B,L (R231). -/
def execLd_B_L (s : State) : Result := loadRegReg .b .l s

/-- LD B,(HL) (R233). -/
def execLd_B_AtHL (s : State) : Result := loadRegHl .b s

/-- LD B,A (R231). -/
def execLd_B_A (s : State) : Result := loadRegReg .b .a s

/-- LD C,B (R231). -/
def execLd_C_B (s : State) : Result := loadRegReg .c .b s

/-- LD C,C (R231). -/
def execLd_C_C (s : State) : Result := loadRegReg .c .c s

/-- LD C,D (R231). -/
def execLd_C_D (s : State) : Result := loadRegReg .c .d s

/-- LD C,E (R231). -/
def execLd_C_E (s : State) : Result := loadRegReg .c .e s

/-- LD C,H (R231). -/
def execLd_C_H (s : State) : Result := loadRegReg .c .h s

/-- LD C,L (R231). -/
def execLd_C_L (s : State) : Result := loadRegReg .c .l s

/-- LD C,(HL) (R233). -/
def execLd_C_AtHL (s : State) : Result := loadRegHl .c s

/-- LD C,A (R231). -/
def execLd_C_A (s : State) : Result := loadRegReg .c .a s

/-- LD D,B (R231). -/
def execLd_D_B (s : State) : Result := loadRegReg .d .b s

/-- LD D,C (R231). -/
def execLd_D_C (s : State) : Result := loadRegReg .d .c s

/-- LD D,D (R231). -/
def execLd_D_D (s : State) : Result := loadRegReg .d .d s

/-- LD D,E (R231). -/
def execLd_D_E (s : State) : Result := loadRegReg .d .e s

/-- LD D,H (R231). -/
def execLd_D_H (s : State) : Result := loadRegReg .d .h s

/-- LD D,L (R231). -/
def execLd_D_L (s : State) : Result := loadRegReg .d .l s

/-- LD D,(HL) (R233). -/
def execLd_D_AtHL (s : State) : Result := loadRegHl .d s

/-- LD D,A (R231). -/
def execLd_D_A (s : State) : Result := loadRegReg .d .a s

/-- LD E,B (R231). -/
def execLd_E_B (s : State) : Result := loadRegReg .e .b s

/-- LD E,C (R231). -/
def execLd_E_C (s : State) : Result := loadRegReg .e .c s

/-- LD E,D (R231). -/
def execLd_E_D (s : State) : Result := loadRegReg .e .d s

/-- LD E,E (R231). -/
def execLd_E_E (s : State) : Result := loadRegReg .e .e s

/-- LD E,H (R231). -/
def execLd_E_H (s : State) : Result := loadRegReg .e .h s

/-- LD E,L (R231). -/
def execLd_E_L (s : State) : Result := loadRegReg .e .l s

/-- LD E,(HL) (R233). -/
def execLd_E_AtHL (s : State) : Result := loadRegHl .e s

/-- LD E,A (R231). -/
def execLd_E_A (s : State) : Result := loadRegReg .e .a s

/-- LD H,B (R231). -/
def execLd_H_B (s : State) : Result := loadRegReg .h .b s

/-- LD H,C (R231). -/
def execLd_H_C (s : State) : Result := loadRegReg .h .c s

/-- LD H,D (R231). -/
def execLd_H_D (s : State) : Result := loadRegReg .h .d s

/-- LD H,E (R231). -/
def execLd_H_E (s : State) : Result := loadRegReg .h .e s

/-- LD H,H (R231). -/
def execLd_H_H (s : State) : Result := loadRegReg .h .h s

/-- LD H,L (R231). -/
def execLd_H_L (s : State) : Result := loadRegReg .h .l s

/-- LD H,(HL) (R233). -/
def execLd_H_AtHL (s : State) : Result := loadRegHl .h s

/-- LD H,A (R231). -/
def execLd_H_A (s : State) : Result := loadRegReg .h .a s

/-- LD L,B (R231). -/
def execLd_L_B (s : State) : Result := loadRegReg .l .b s

/-- LD L,C (R231). -/
def execLd_L_C (s : State) : Result := loadRegReg .l .c s

/-- LD L,D (R231). -/
def execLd_L_D (s : State) : Result := loadRegReg .l .d s

/-- LD L,E (R231). -/
def execLd_L_E (s : State) : Result := loadRegReg .l .e s

/-- LD L,H (R231). -/
def execLd_L_H (s : State) : Result := loadRegReg .l .h s

/-- LD L,L (R231). -/
def execLd_L_L (s : State) : Result := loadRegReg .l .l s

/-- LD L,(HL) (R233). -/
def execLd_L_AtHL (s : State) : Result := loadRegHl .l s

/-- LD L,A (R231). -/
def execLd_L_A (s : State) : Result := loadRegReg .l .a s

/-- LD (HL),B (R234). -/
def execLd_AtHL_B (s : State) : Result := storeHlReg .b s

/-- LD (HL),C (R234). -/
def execLd_AtHL_C (s : State) : Result := storeHlReg .c s

/-- LD (HL),D (R234). -/
def execLd_AtHL_D (s : State) : Result := storeHlReg .d s

/-- LD (HL),E (R234). -/
def execLd_AtHL_E (s : State) : Result := storeHlReg .e s

/-- LD (HL),H (R234). -/
def execLd_AtHL_H (s : State) : Result := storeHlReg .h s

/-- LD (HL),L (R234). -/
def execLd_AtHL_L (s : State) : Result := storeHlReg .l s

/-- LD (HL),A (R234). -/
def execLd_AtHL_A (s : State) : Result := storeHlReg .a s

/-- LD A,B (R231). -/
def execLd_A_B (s : State) : Result := loadRegReg .a .b s

/-- LD A,C (R231). -/
def execLd_A_C (s : State) : Result := loadRegReg .a .c s

/-- LD A,D (R231). -/
def execLd_A_D (s : State) : Result := loadRegReg .a .d s

/-- LD A,E (R231). -/
def execLd_A_E (s : State) : Result := loadRegReg .a .e s

/-- LD A,H (R231). -/
def execLd_A_H (s : State) : Result := loadRegReg .a .h s

/-- LD A,L (R231). -/
def execLd_A_L (s : State) : Result := loadRegReg .a .l s

/-- LD A,(HL) (R233). -/
def execLd_A_AtHL (s : State) : Result := loadRegHl .a s

/-- LD A,A (R231). -/
def execLd_A_A (s : State) : Result := loadRegReg .a .a s

/-- LDH (C),A (R247). -/
def execLdh_AtC_A (s : State) : Result := storeAHighC s

/-- LDH A,(C) (R246). -/
def execLdh_A_AtC (s : State) : Result := loadAHighC s

end Sys2Proof.Machine
end

