-- ==== Sys2Proof/Machine/Rotate.lean ====
section
/-! DEFINITION. Rotates, shifts and swap (`45_rotate_shift.md` R330 to R350). -/

namespace Sys2Proof.Machine

/-- The tuple of the accumulator rotates: Z is cleared (R330). -/
def rotATuple : FlagTuple := ⟨.zero, .zero, .zero, .alu⟩

/-- An accumulator rotate with its result (R331 to R334). -/
def rotateA (x : AluResult 8) (o : Op) (s : State) : Result :=
  .next (((s.setFlags rotATuple x.f).setR8 .a x.v).retire o)

/-- RLCA (R331). -/
def rotateALeft (s : State) : Result := rotateA (Alu.rotate .left (s.r8 .a)) .rlca s

/-- RRCA (R332). -/
def rotateARight (s : State) : Result := rotateA (Alu.rotate .right (s.r8 .a)) .rrca s

/-- RLA (R333). -/
def rotateALeftCarry (s : State) : Result := rotateA (Alu.rotateCarry .left (s.r8 .a) s.flags.c) .rla s

/-- RRA (R334). -/
def rotateARightCarry (s : State) : Result := rotateA (Alu.rotateCarry .right (s.r8 .a) s.flags.c) .rra s

/-- A prefixed rotate or shift of a register (R335, R337, R339, R341, R343, R345, R347, R349). -/
def shiftReg (o : ShiftOp) (r : R8) (s : State) : Result :=
  let x := shiftFn o (s.r8 r) s.flags.c
  .next (((s.setFlags (shiftTuple o) x.f).setR8 r x.v).retire (.shiftR o r))

/-- A prefixed rotate or shift of (HL) (R336, R338, R340, R342, R344, R346, R348, R350). -/
def shiftAtHl (o : ShiftOp) (s : State) : Result :=
  let x := shiftFn o s.atHl s.flags.c
  .next ((busWrite (s.setFlags (shiftTuple o) x.f) s.hl x.v).retire (.shiftHl o))

/-- RLCA (R331). -/
def execRlca (s : State) : Result := rotateALeft s

/-- RRCA (R332). -/
def execRrca (s : State) : Result := rotateARight s

/-- RLA (R333). -/
def execRla (s : State) : Result := rotateALeftCarry s

/-- RRA (R334). -/
def execRra (s : State) : Result := rotateARightCarry s

/-- RLC B (R335). -/
def execRlc_B (s : State) : Result := shiftReg .rlc .b s

/-- RLC C (R335). -/
def execRlc_C (s : State) : Result := shiftReg .rlc .c s

/-- RLC D (R335). -/
def execRlc_D (s : State) : Result := shiftReg .rlc .d s

/-- RLC E (R335). -/
def execRlc_E (s : State) : Result := shiftReg .rlc .e s

/-- RLC H (R335). -/
def execRlc_H (s : State) : Result := shiftReg .rlc .h s

/-- RLC L (R335). -/
def execRlc_L (s : State) : Result := shiftReg .rlc .l s

/-- RLC (HL) (R336). -/
def execRlc_AtHL (s : State) : Result := shiftAtHl .rlc s

/-- RLC A (R335). -/
def execRlc_A (s : State) : Result := shiftReg .rlc .a s

/-- RRC B (R337). -/
def execRrc_B (s : State) : Result := shiftReg .rrc .b s

/-- RRC C (R337). -/
def execRrc_C (s : State) : Result := shiftReg .rrc .c s

/-- RRC D (R337). -/
def execRrc_D (s : State) : Result := shiftReg .rrc .d s

/-- RRC E (R337). -/
def execRrc_E (s : State) : Result := shiftReg .rrc .e s

/-- RRC H (R337). -/
def execRrc_H (s : State) : Result := shiftReg .rrc .h s

/-- RRC L (R337). -/
def execRrc_L (s : State) : Result := shiftReg .rrc .l s

/-- RRC (HL) (R338). -/
def execRrc_AtHL (s : State) : Result := shiftAtHl .rrc s

/-- RRC A (R337). -/
def execRrc_A (s : State) : Result := shiftReg .rrc .a s

/-- RL B (R339). -/
def execRl_B (s : State) : Result := shiftReg .rl .b s

/-- RL C (R339). -/
def execRl_C (s : State) : Result := shiftReg .rl .c s

/-- RL D (R339). -/
def execRl_D (s : State) : Result := shiftReg .rl .d s

/-- RL E (R339). -/
def execRl_E (s : State) : Result := shiftReg .rl .e s

/-- RL H (R339). -/
def execRl_H (s : State) : Result := shiftReg .rl .h s

/-- RL L (R339). -/
def execRl_L (s : State) : Result := shiftReg .rl .l s

/-- RL (HL) (R340). -/
def execRl_AtHL (s : State) : Result := shiftAtHl .rl s

/-- RL A (R339). -/
def execRl_A (s : State) : Result := shiftReg .rl .a s

/-- RR B (R341). -/
def execRr_B (s : State) : Result := shiftReg .rr .b s

/-- RR C (R341). -/
def execRr_C (s : State) : Result := shiftReg .rr .c s

/-- RR D (R341). -/
def execRr_D (s : State) : Result := shiftReg .rr .d s

/-- RR E (R341). -/
def execRr_E (s : State) : Result := shiftReg .rr .e s

/-- RR H (R341). -/
def execRr_H (s : State) : Result := shiftReg .rr .h s

/-- RR L (R341). -/
def execRr_L (s : State) : Result := shiftReg .rr .l s

/-- RR (HL) (R342). -/
def execRr_AtHL (s : State) : Result := shiftAtHl .rr s

/-- RR A (R341). -/
def execRr_A (s : State) : Result := shiftReg .rr .a s

/-- SLA B (R343). -/
def execSla_B (s : State) : Result := shiftReg .sla .b s

/-- SLA C (R343). -/
def execSla_C (s : State) : Result := shiftReg .sla .c s

/-- SLA D (R343). -/
def execSla_D (s : State) : Result := shiftReg .sla .d s

/-- SLA E (R343). -/
def execSla_E (s : State) : Result := shiftReg .sla .e s

/-- SLA H (R343). -/
def execSla_H (s : State) : Result := shiftReg .sla .h s

/-- SLA L (R343). -/
def execSla_L (s : State) : Result := shiftReg .sla .l s

/-- SLA (HL) (R344). -/
def execSla_AtHL (s : State) : Result := shiftAtHl .sla s

/-- SLA A (R343). -/
def execSla_A (s : State) : Result := shiftReg .sla .a s

/-- SRA B (R345). -/
def execSra_B (s : State) : Result := shiftReg .sra .b s

/-- SRA C (R345). -/
def execSra_C (s : State) : Result := shiftReg .sra .c s

/-- SRA D (R345). -/
def execSra_D (s : State) : Result := shiftReg .sra .d s

/-- SRA E (R345). -/
def execSra_E (s : State) : Result := shiftReg .sra .e s

/-- SRA H (R345). -/
def execSra_H (s : State) : Result := shiftReg .sra .h s

/-- SRA L (R345). -/
def execSra_L (s : State) : Result := shiftReg .sra .l s

/-- SRA (HL) (R346). -/
def execSra_AtHL (s : State) : Result := shiftAtHl .sra s

/-- SRA A (R345). -/
def execSra_A (s : State) : Result := shiftReg .sra .a s

/-- SWAP B (R347). -/
def execSwap_B (s : State) : Result := shiftReg .swap .b s

/-- SWAP C (R347). -/
def execSwap_C (s : State) : Result := shiftReg .swap .c s

/-- SWAP D (R347). -/
def execSwap_D (s : State) : Result := shiftReg .swap .d s

/-- SWAP E (R347). -/
def execSwap_E (s : State) : Result := shiftReg .swap .e s

/-- SWAP H (R347). -/
def execSwap_H (s : State) : Result := shiftReg .swap .h s

/-- SWAP L (R347). -/
def execSwap_L (s : State) : Result := shiftReg .swap .l s

/-- SWAP (HL) (R348). -/
def execSwap_AtHL (s : State) : Result := shiftAtHl .swap s

/-- SWAP A (R347). -/
def execSwap_A (s : State) : Result := shiftReg .swap .a s

/-- SRL B (R349). -/
def execSrl_B (s : State) : Result := shiftReg .srl .b s

/-- SRL C (R349). -/
def execSrl_C (s : State) : Result := shiftReg .srl .c s

/-- SRL D (R349). -/
def execSrl_D (s : State) : Result := shiftReg .srl .d s

/-- SRL E (R349). -/
def execSrl_E (s : State) : Result := shiftReg .srl .e s

/-- SRL H (R349). -/
def execSrl_H (s : State) : Result := shiftReg .srl .h s

/-- SRL L (R349). -/
def execSrl_L (s : State) : Result := shiftReg .srl .l s

/-- SRL (HL) (R350). -/
def execSrl_AtHL (s : State) : Result := shiftAtHl .srl s

/-- SRL A (R349). -/
def execSrl_A (s : State) : Result := shiftReg .srl .a s

end Sys2Proof.Machine
end

