-- ==== Sys2Proof/Machine/System.lean ====
section
/-! DEFINITION. NOP, HALT, STOP, DI, EI and the unused bytes (`48_system.md` R390 to R394, `30_encoding.md` R144). -/

namespace Sys2Proof.Machine

/-- NOP (R390). -/
def noOperation (s : State) : Result := .next (s.retire .nop)

/-- HALT: `pc <- clip16(pc + 1); cpu.next <- NEVER` (R391). -/
def haltCpu (s : State) : Result :=
  .next { s with cpu := { s.cpu with pc := s.pcNext .halt, next := none } }

/-- STOP: `raise Fault(STOP)`, nothing else changes (R392). -/
def stopCpu (s : State) : Result := .next (raiseFault .stop s)

/-- An unused byte b: `raise Fault(ILLEGAL(b))`, nothing else changes (R144). -/
def illegalByte (b : Byte) (s : State) : Result := .next (raiseFault (.illegal b) s)

/-- DI: `ime <- 0`, at once (R393). -/
def disableInterrupts (s : State) : Result := .next ((s.setIme false).retire .di)

/-- EI: `ime <- 1`, at once (R394). -/
def enableInterrupts (s : State) : Result := .next ((s.setIme true).retire .ei)

/-- NOP (R390). -/
def execNop (s : State) : Result := noOperation s

/-- STOP (R392). -/
def execStop (s : State) : Result := stopCpu s

/-- HALT (R391). -/
def execHalt (s : State) : Result := haltCpu s

/-- (unused 0xD3) (R144). -/
def execUnused_D3 (s : State) : Result := illegalByte 0xD3#8 s

/-- (unused 0xDB) (R144). -/
def execUnused_DB (s : State) : Result := illegalByte 0xDB#8 s

/-- (unused 0xDD) (R144). -/
def execUnused_DD (s : State) : Result := illegalByte 0xDD#8 s

/-- (unused 0xE3) (R144). -/
def execUnused_E3 (s : State) : Result := illegalByte 0xE3#8 s

/-- (unused 0xE4) (R144). -/
def execUnused_E4 (s : State) : Result := illegalByte 0xE4#8 s

/-- (unused 0xEB) (R144). -/
def execUnused_EB (s : State) : Result := illegalByte 0xEB#8 s

/-- (unused 0xEC) (R144). -/
def execUnused_EC (s : State) : Result := illegalByte 0xEC#8 s

/-- (unused 0xED) (R144). -/
def execUnused_ED (s : State) : Result := illegalByte 0xED#8 s

/-- DI (R393). -/
def execDi (s : State) : Result := disableInterrupts s

/-- (unused 0xF4) (R144). -/
def execUnused_F4 (s : State) : Result := illegalByte 0xF4#8 s

/-- EI (R394). -/
def execEi (s : State) : Result := enableInterrupts s

/-- (unused 0xFC) (R144). -/
def execUnused_FC (s : State) : Result := illegalByte 0xFC#8 s

/-- (unused 0xFD) (R144). -/
def execUnused_FD (s : State) : Result := illegalByte 0xFD#8 s

end Sys2Proof.Machine
end

