-- ==== Sys2Proof/Machine/OpRun.lean ====
section
/-! DEFINITION. The meaning of an operation, one arm per constructor of `Op`, and the meaning of the prefix byte's row. -/

namespace Sys2Proof.Machine

/-- The meaning of an operation. -/
def Op.run (o : Op) (s : State) : Result :=
  match o with
  | .nop => noOperation s
  | .halt => haltCpu s
  | .stop => stopCpu s
  | .di => disableInterrupts s
  | .ei => enableInterrupts s
  | .unused b => illegalByte b s
  | .ldRR dst src => loadRegReg dst src s
  | .ldRN dst n8 => loadRegImm dst n8 s
  | .ldRHl dst => loadRegHl dst s
  | .ldHlR src => storeHlReg src s
  | .ldHlN n8 => storeHlImm n8 s
  | .ldAMem m => loadAMem m s
  | .ldMemA m => storeMemA m s
  | .ldhAN n8 => loadAHigh n8 s
  | .ldhNA n8 => storeAHigh n8 s
  | .ldhAC => loadAHighC s
  | .ldhCA => storeAHighC s
  | .ldANn n16 => loadAAbs n16 s
  | .ldNnA n16 => storeAAbs n16 s
  | .ldPairN p n16 => loadPairImm p n16 s
  | .ldSpHl => loadSpHl s
  | .ldNnSp n16 => storeSpAbs n16 s
  | .push p => pushPair p s
  | .pop p => popPair p s
  | .aluR o src => aluReg o src s
  | .aluN o n8 => aluImm o n8 s
  | .aluHl o => aluHl o s
  | .incR r => incReg r s
  | .incHl => incAtHl s
  | .decR r => decReg r s
  | .decHl => decAtHl s
  | .daa => decimalAdjust s
  | .cpl => complementA s
  | .scf => setCarry s
  | .ccf => complementCarry s
  | .addHl p => addHlPair p s
  | .incPair p => incPair p s
  | .decPair p => decPair p s
  | .addSp e8 => addSpImm e8 s
  | .ldHlSp e8 => loadHlSp e8 s
  | .rlca => rotateALeft s
  | .rrca => rotateARight s
  | .rla => rotateALeftCarry s
  | .rra => rotateARightCarry s
  | .shiftR o r => shiftReg o r s
  | .shiftHl o => shiftAtHl o s
  | .bitR b r => testBitReg b r s
  | .bitHl b => testBitAtHl b s
  | .resR b r => resetBitReg b r s
  | .resHl b => resetBitAtHl b s
  | .setR b r => setBitReg b r s
  | .setHl b => setBitAtHl b s
  | .jp n16 => jumpAbs n16 s
  | .jpCc cc n16 => jumpAbsIf cc n16 s
  | .jpHl => jumpHl s
  | .jr e8 => jumpRel e8 s
  | .jrCc cc e8 => jumpRelIf cc e8 s
  | .call n16 => callAbs n16 s
  | .callCc cc n16 => callAbsIf cc n16 s
  | .ret => returnSub s
  | .retCc cc => returnIf cc s
  | .reti => returnInterrupt s
  | .rst y => restart y s

/-- PREFIX CB: look the next byte up in the prefixed table (`48_system.md` R395, `30_encoding.md` R136). The prefix is not an
instruction of its own, so no bytes decode to this row (log entry 10). -/
def execPrefix_CB (op2 : Byte) (s : State) : Result := Op.run (prefixedOp op2) s

end Sys2Proof.Machine
end

