-- ==== Sys2Proof/Machine/Scheduler.lean ====
section
/-! DEFINITION. One step of the driver (`61_scheduler.md` R450 to R458): the Timer, the LCD controller with its DMA engine and
the Cpu act in that order at the cycle `cyc`. -/

namespace Sys2Proof.Machine

/-- The bus address of DMA source byte k: `clip16((DMA << 8) + k)` (`63_lcd_controller.md` R540). -/
def dmaSource (l : Lcd) : Addr := make16 l.dma 0#8 + BitVec.ofNat 16 l.dmaIndex

/-- `DmaStep()`: one byte is read through the bus and written into `oam` directly (R540). -/
def dmaStep (s : State) : State :=
  if s.lcd.dmaIndex < 160 then
    { s with lcd := { s.lcd with
        oam := s.lcd.oam.store s.lcd.dmaIndex (busRead s (dmaSource s.lcd)), dmaIndex := s.lcd.dmaIndex + 1 } }
  else s

/-- The LCD controller notices that the display has been enabled (R511, R512). -/
def lcdNotice (s : State) : State := if s.lcd.next = none ∧ s.lcd.lcdc.getLsbD 7 then lcdEnable s else s

/-- `LcdStep(c)` (R511). -/
def lcdStep (s : State) : State :=
  let s1 := dmaStep (lcdNotice s)
  if s1.lcd.next = some s1.cyc then lcdAct s1 else s1

/-- The instruction at `pc`; the addresses `pc + 1` and `pc + 2` wrap (`30_encoding.md` R135, R136, R150; log entry 13). -/
def fetch (s : State) : Instr :=
  decodeBytes (busRead s s.cpu.pc) (busRead s (s.cpu.pc + 1#16)) (busRead s (s.cpu.pc + 2#16))

/-- The wake test: a halted Cpu becomes active when a source is pending and enabled, whatever `ime` holds (R456). -/
def wake (s : State) : State :=
  if s.cpu.next = none ∧ s.ready ≠ 0#8 then { s with cpu := { s.cpu with next := some s.cyc } } else s

/-- `CpuAct(c)`: an interrupt is serviced, or one instruction is executed (R457). -/
def cpuAct (s : State) : Result :=
  if s.cpu.ime = true ∧ s.ready ≠ 0#8 then .next (serviceInterrupt s) else exec (fetch s) s

/-- `CpuStep(c)` (R456). -/
def cpuStep (s : State) : Result :=
  let s1 := wake s
  if s1.cpu.next = some s1.cyc then cpuAct s1 else .next s1

/-- The Timer and the LCD controller of cycle `cyc`, which precede the Cpu (R452, R453). -/
def devicesStep (s : State) : State := lcdStep (timerStep s)

/-- The counter advances unless a fault was raised (R452, R462). -/
def advance (s : State) : State := if s.fault = none then { s with cyc := s.cyc + 1 } else s

/-- `Step()` (R452). -/
def driverStep (s : State) : Result :=
  match cpuStep (devicesStep s) with
  | .next t => .next (advance t)
  | .fault k => .fault k
  | .refused r => .refused r

end Sys2Proof.Machine
end

