-- ==== Sys2Proof/Machine/Step.lean ====
section
/-! DEFINITION. The step of the machine, one driver step, and the placing of an instruction where the next step fetches it. -/

namespace Sys2Proof.Machine

/-- One step: one cycle of the driver (`61_scheduler.md` R452). A machine whose fault latch is set takes no step and reports the
fault (R462, `60_exceptions.md` R401; log entries 7 and 9). -/
def step (s : State) : Host.Outcome State Fault Refusal :=
  match s.fault with
  | some k => .fault k
  | none => driverStep s

/-- The image the cartridge holds; an empty one for any other cartridge (log entry 20). -/
def Cartridge.rom : Cartridge → Memory
  | .image rom => rom
  | .oracle _ => []

/-- The state with the three bytes stored in the cartridge's image from address k on. -/
def State.withRom3 (s : State) (k : Nat) (b : Byte × Byte × Byte) : State :=
  let rom := ((s.platform.cart.rom.store k b.1).store (k + 1) b.2.1).store (k + 2) b.2.2
  { s with platform := { s.platform with cart := .image rom } }

/-- Whether the three bytes from `pc` on lie in memory that a store reaches and nothing else (`20_memory.md` R90, R91): `vram`,
work RAM, its echo, or high RAM. -/
def pcInRam (pc : Addr) : Bool :=
  (decide (0x8000 ≤ pc.toNat) && decide (pc.toNat ≤ 0x9FFD)) || (decide (0xC000 ≤ pc.toNat) && decide (pc.toNat ≤ 0xFDFD))
    || (decide (0xFF80 ≤ pc.toNat) && decide (pc.toNat ≤ 0xFFFC))

/-- The state with the default platform (log entry 20). -/
def State.onDefaultPlatform (s : State) : State := { s with params := { s.params with platform := Config.platform } }

/-- The state with the three bytes where the Cpu fetches: at `pc` where memory can hold them, else at address 0 of the
cartridge's image with `pc` there (log entry 20). -/
def State.withBytes (s : State) (b : Byte × Byte × Byte) : State :=
  if s.cpu.pc.toNat ≤ 0x7FFD then s.withRom3 s.cpu.pc.toNat b
  else if pcInRam s.cpu.pc then
    busWrite (busWrite (busWrite s s.cpu.pc b.1) (s.cpu.pc + 1#16) b.2.1) (s.cpu.pc + 2#16) b.2.2
  else { s.withRom3 0 b with cpu := { s.cpu with pc := 0#16 } }

/-- The state in which the very next step executes the instruction whose bits are `w`: its bytes stand where the Cpu fetches, the
Cpu acts in this cycle, no fault is latched and no interrupt can be serviced instead (log entries 6, 12, 20). -/
def State.withFetchWord (s : State) (nbits w : Nat) : State :=
  let t := s.onDefaultPlatform.withBytes (tableBytes nbits w)
  { t with fault := none, cpu := { t.cpu with next := some t.cyc, ime := false } }

end Sys2Proof.Machine
end

