-- ==== Sys2Proof/Machine/HostBoundary.lean ====
section
/-! DEFINITION. What the host can do, at a cycle boundary only (`61_scheduler.md` R451, R463 to R465). -/

namespace Sys2Proof.Machine

/-- At most k driver steps, none once the fault latch is set (R451, R462). -/
def runFor : Nat → State → Result
  | 0, s => .next s
  | k + 1, s =>
    match s.fault with
    | some _ => .next s
    | none =>
      match driverStep s with
      | .next t => runFor k t
      | .fault f => .fault f
      | .refused r => .refused r

/-- `runUntil(N)`: refused if N is below the cycles executed; else stepped until `cyc = N` or a fault, which the latch of the
answered state reports (R451, R462). -/
def runUntil (n : Nat) (s : State) : Result := if n < s.cyc then .refused .runUntilPast else runFor (n - s.cyc) s

/-- The image pull: the most recently completed image (R464). -/
def pullImage (s : State) : LcdImage := s.lcd.image

/-- What the host does between two driver steps (R463). -/
inductive HostAction where
  | runUntil (n : Nat)
  | pullImage
  | keyPressed (k : Key)
  | keyReleased (k : Key)
deriving DecidableEq, Repr

/-- A host action. A pull has no effect on the machine (R464); a key event takes effect at once (R465), and none on a faulted
machine, in which no component acts (`60_exceptions.md` R401; log entry 8). -/
def hostAct (a : HostAction) (s : State) : Result :=
  match a with
  | .runUntil n => runUntil n s
  | .pullImage => .next s
  | .keyPressed k => .next (if s.fault = none then keyPressed k s else s)
  | .keyReleased k => .next (if s.fault = none then keyReleased k s else s)

/-- A sequence of host actions, the `HOST` parameter of `00_scope.md` R7; a refused request changes nothing and the rest goes on
(R451). -/
def hostRun : List HostAction → State → State
  | [], s => s
  | a :: rest, s =>
    match hostAct a s with
    | .next t => hostRun rest t
    | .fault _ => hostRun rest s
    | .refused _ => hostRun rest s

end Sys2Proof.Machine
end

