-- ==== Sys2Proof/Safety.lean ====
section
/-! DEFINITION. What a claim about this machine may rest on: the invariant of its states and the absence of a fault. -/

namespace Sys2Proof.Machine

/-- The controller's frame (`63_lcd_controller.md` R513, R512, R516, R524): while no action is scheduled, line 0, mode 0 and no
line drawn; while one is, the display is enabled, LY and the number of drawn lines fit the mode, and the window line counter
counts drawn lines. -/
def Lcd.frameOk (l : Lcd) : Prop :=
  match l.next with
  | none => l.ly = 0#8 ∧ l.mode = .m0 ∧ l.lines = []
  | some _ =>
    l.lcdc.getLsbD 7 = true ∧ l.winY ≤ l.lines.length ∧
      match l.mode with
      | .m2 => l.ly.toNat ≤ 143 ∧ l.lines.length = l.ly.toNat
      | .m3 => l.ly.toNat ≤ 143 ∧ l.lines.length = l.ly.toNat + 1
      | .m0 => l.ly.toNat ≤ 143 ∧ l.lines.length = l.ly.toNat + 1
      | .m1 => 144 ≤ l.ly.toNat ∧ l.ly.toNat ≤ 153 ∧ l.lines.length = 144

/-- The invariant of the machine's states. -/
structure State.Inv (s : State) : Prop where
  /-- Every cost of the parameters is at least one cycle (`92_eei_decisions.md` D4). -/
  params : s.params.ok = true
  /-- The low nibble of F is 0 (`10_state.md` R24). -/
  flagsLow : s.cpu.regs.f &&& 0x0F#8 = 0#8
  /-- The main counter's two low bits are 0 (`62_timer.md` R481). -/
  counterLow : s.timer.counter &&& 3#16 = 0#16
  /-- Every memory is in canonical form and inside its size. -/
  memory : s.memoryWf = true
  /-- The Cpu is not scheduled in the past (`61_scheduler.md` R466). -/
  cpuNext : ∀ n, s.cpu.next = some n → s.cyc ≤ n
  /-- The LCD controller is not scheduled in the past (R466). -/
  lcdNext : ∀ n, s.lcd.next = some n → s.cyc ≤ n
  /-- The DMA index is in 0 to 160 (`10_state.md` R38). -/
  dma : s.lcd.dmaIndex ≤ 160
  /-- The controller's frame fits its mode. -/
  frame : s.lcd.frameOk
  /-- The image has 144 lines (`64_lcd_image.md` R590). -/
  image : s.lcd.image.wf = true

/-- The reset values, for RESET (`00_scope.md` R7), that a machine can be built with: what `State.Inv` asks of the parts that keep
their reset value. Nothing is asked of F, whose low nibble the reset clears (`10_state.md` R24). -/
structure ResetValues.Ok (r : ResetValues) : Prop where
  /-- The main counter's two low bits are 0 (`62_timer.md` R481). -/
  counterLow : r.timer.counter &&& 3#16 = 0#16
  /-- Each memory is in canonical form and inside its size. -/
  vram : Memory.wf 8192 r.lcd.vram = true
  oam : Memory.wf 160 r.lcd.oam = true
  workRam : Memory.wf 8192 r.workRam = true
  highRam : Memory.wf 127 r.highRam = true
  ram : Memory.wf 0x1000000 r.ram = true
  rom : Memory.wf 0x1000000 r.rom = true
  /-- The DMA index is in 0 to 160 (`10_state.md` R38). -/
  dma : r.lcd.dmaIndex ≤ 160
  /-- The controller's frame fits its mode. -/
  frame : r.lcd.frameOk
  /-- The image has 144 lines (`64_lcd_image.md` R590). -/
  image : r.lcd.image.wf = true

/-- The bus has the participants of the spec's default platform, in its order (`20_memory.md` R91). -/
abbrev DefaultPlatform (s : State) : Prop := s.params.platform = Config.platform

/-- The addresses whose byte is what was last written there (`20_memory.md` R84 to R87, R91; `62_timer.md` R479, R480;
`63_lcd_controller.md` R495, R496, R499 to R501): `vram`, `oam`, work RAM and its echo, high RAM, IE, IF, TIMA, TMA, TAC, and
the LCD registers but STAT and LY. -/
def plainStorage (a : Addr) : Bool :=
  inVram a || inOam a || inWorkRam a || inEcho a || inHighRam a || a == 0xFFFF#16 || a == 0xFF0F#16
    || a == 0xFF05#16 || a == 0xFF06#16 || a == 0xFF07#16 || a == 0xFF40#16 || a == 0xFF42#16 || a == 0xFF43#16
    || (decide (0xFF45 ≤ a.toNat) && decide (a.toNat ≤ 0xFF4B))

/-- The addresses b at which a read may answer another byte after a write to the address a (R101): a itself; the other name of a
work RAM byte; what a write to DIV or TAC (TIMA, IF), to LCDC (STAT, LY, IF) or to LYC (STAT, IF) changes; any cartridge
address, if the cartridge is not a plain image. -/
def writeReaches (s : State) (a b : Addr) : Bool :=
  b == a
    || (inWorkRam a && inEcho b && b == a + 0x2000#16) || (inEcho a && inWorkRam b && b == a - 0x2000#16)
    || ((a == 0xFF04#16 || a == 0xFF07#16) && (b == 0xFF05#16 || b == 0xFF0F#16))
    || (a == 0xFF40#16 && (b == 0xFF41#16 || b == 0xFF44#16 || b == 0xFF0F#16))
    || (a == 0xFF45#16 && (b == 0xFF41#16 || b == 0xFF0F#16))
    || (match s.platform.cart with
        | .image _ => false
        | .oracle _ => cartridgeClaims a && cartridgeClaims b)

/-! What an instruction does, in the terms the statements use. -/

/-- A byte of an encoding, from its number. -/
abbrev byteOf (n : Nat) : Byte := BitVec.ofNat 8 n

/-- Every register outside the list holds what it held; F is one of them, all its 8 bits. -/
def RegsBut (l : List Reg) (s t : State) : Prop := ∀ r, r ∉ l → t.reg r = s.reg r

/-- `sp` and `ime` hold what they held. -/
def KeepsSpIme (s t : State) : Prop := t.cpu.sp = s.cpu.sp ∧ t.cpu.ime = s.cpu.ime

/-- The devices and every byte of memory hold what they held: IE, IF, the Timer, the LCD controller, the Joypad, the platform,
and the bus's answer at every address. -/
def Quiet (s t : State) : Prop :=
  t.cpu.ie = s.cpu.ie ∧ t.cpu.iflag = s.cpu.iflag ∧ t.timer = s.timer ∧ t.lcd = s.lcd ∧ t.joypad = s.joypad ∧
    t.platform = s.platform ∧ ∀ a, busRead t a = busRead s a

/-- The devices and memory of t are those of u, which is s after bus writes. -/
def DevicesOf (u t : State) : Prop :=
  t.cpu.ie = u.cpu.ie ∧ t.cpu.iflag = u.cpu.iflag ∧ t.timer = u.timer ∧ t.lcd = u.lcd ∧ t.joypad = u.joypad ∧
    t.platform = u.platform ∧ ∀ a, busRead t a = busRead u a

/-- The byte v was stored at a and nowhere else: the bus took one write, of v at a; on the default platform a plain byte reads as
written, and every address the write does not reach reads as before. -/
def StoredByte (s t : State) (a : Addr) (v : Byte) : Prop :=
  DevicesOf (busWrite s a v) t ∧
    (DefaultPlatform s → (s.memoryWf = true → plainStorage a = true → busRead t a = v) ∧
      ∀ b, writeReaches s a b = false → busRead t b = busRead s b)

/-- The 16-bit value v was stored at a, the low byte first, and nowhere else (`20_memory.md` R94, R97). -/
def StoredWord (s t : State) (a : Addr) (v : Addr) : Prop :=
  DevicesOf (busWrite (busWrite s a (v.setWidth 8)) (a + 1#16) ((v >>> 8).setWidth 8)) t ∧
    (DefaultPlatform s →
      (s.memoryWf = true → plainStorage a = true → busRead t a = v.setWidth 8) ∧
      (s.memoryWf = true → plainStorage (a + 1#16) = true → busRead t (a + 1#16) = (v >>> 8).setWidth 8) ∧
      ∀ b, writeReaches s a b = false → writeReaches s (a + 1#16) b = false → busRead t b = busRead s b)

/-- The act ends with the Cpu at `target`, acting again after `cost` cycles; the counter, the fault latch and the parameters are
what they were. -/
def Ends (s t : State) (target : Addr) (cost : Nat) : Prop :=
  t.cpu.pc = target ∧ t.cpu.next = some (s.cyc + cost) ∧ t.cyc = s.cyc ∧ t.fault = s.fault ∧ t.params = s.params

/-- The act of an operation ends at the next instruction, `clip16(pc + length)`, at its base cost: the length and the cost are
those of the machine's COST table (`30_encoding.md` R150). -/
def FallsThrough (s t : State) (o : Op) : Prop :=
  Ends s t (s.cpu.pc + BitVec.ofNat 16 (s.descriptor o).length) (s.descriptor o).cycles

/-- The act ends at `target`, at the base cost (R150, R151). -/
def GoesTo (s t : State) (o : Op) (target : Addr) : Prop := Ends s t target (s.descriptor o).cycles

/-- The act of a conditional transfer that is taken ends at `target`, at the base and the extra cost (R150, R151). -/
def TakenTo (s t : State) (o : Op) (target : Addr) : Prop :=
  Ends s t target ((s.descriptor o).cycles + (s.descriptor o).extra)

/-- The bytes of an instruction, and its length, base cost and extra cost in the default COST table (R140 to R143). -/
def HasRow (i : Instr) (bytes : List Byte) (length cycles extra : Nat) : Prop :=
  encode i = bytes ∧ i.op.descriptor = ⟨length, cycles, extra⟩

/-- The low nibble of F reads 0 (`10_state.md` R23, R24). -/
def FlagsClean (t : State) : Prop := t.reg .f &&& 0x0F#8 = 0#8

/-- The pair an operand code of the field `r16sp` names; none for SP (`30_encoding.md` R133). -/
def pairOf : R16sp → Option Pair
  | .bc => some .bc | .de => some .de | .hl => some .hl | .sp => none

/-- The three operand forms of an 8-bit operation on A: operand, length, cost and bytes (`43_alu8.md` R280, `30_encoding.md`
R141, R142). -/
inductive AluForm (i : Instr) (s : State) (o : AluOp) : Byte → Nat → Nat → List Byte → Prop where
  | reg (r : R8) (h : i.op = .aluR o r) : AluForm i s o (s.r8 r) 1 1 [byteOf (0x80 + 8 * o.code + r.code)]
  | imm (n8 : Byte) (h : i.op = .aluN o n8) : AluForm i s o n8 2 2 [byteOf (0xC6 + 8 * o.code), n8]
  | hl (h : i.op = .aluHl o) : AluForm i s o (busRead s (s.pair .hl)) 1 2 [byteOf (0x86 + 8 * o.code)]

/-- The result of a prefixed rotate or shift of v, c the flag C before (`40_bitops_alu.md` R200 to R205). -/
def shiftValue (o : ShiftOp) (v : Byte) (c : Bool) : Byte :=
  match o with
  | .rlc => v.rotateLeft 1
  | .rrc => v.rotateRight 1
  | .rl => (v <<< 1) ||| (if c then 0x01#8 else 0#8)
  | .rr => (v >>> 1) ||| (if c then 0x80#8 else 0#8)
  | .sla => v <<< 1
  | .sra => v.sshiftRight 1
  | .swap => v.rotateLeft 4
  | .srl => v >>> 1

/-- The bit a prefixed rotate or shift ejects into C; SWAP clears C (R200 to R205). -/
def shiftCarry (o : ShiftOp) (v : Byte) : Bool :=
  match o with
  | .rlc => v.getLsbD 7
  | .rrc => v.getLsbD 0
  | .rl => v.getLsbD 7
  | .rr => v.getLsbD 0
  | .sla => v.getLsbD 7
  | .sra => v.getLsbD 0
  | .swap => false
  | .srl => v.getLsbD 0

/-- What the Cpu finds at the cycle of s: the Timer steps; then the LCD controller, which enables the display where LCDC[7] is set and
no action is scheduled, copies a DMA byte, and acts where its action is scheduled for this cycle; then the wake test is made
(`61_scheduler.md` R452 to R456, `63_lcd_controller.md` R511). -/
def BeforeCpu (s w : State) : Prop :=
  ∃ timed enabled copied acted : State,
    timed = timerStep s ∧
    enabled = (if timed.lcd.next = none ∧ timed.lcd.lcdc.getLsbD 7 = true then lcdEnable timed else timed) ∧
    copied = dmaStep enabled ∧
    acted = (if copied.lcd.next = some s.cyc then lcdAct copied else copied) ∧
    w = wake acted

/-- No fault is latched: the machine can take a step (`60_exceptions.md` R401). -/
def State.running (s : State) : Prop := s.fault = none

/-- A run of k steps is safe when every step of it answers a next state and no fault is latched in any of its states, the final one
among them: a fault is never a final state of a successful run (`60_exceptions.md` R401). -/
def safeFor : Nat → State → Prop
  | 0, s => s.running
  | k + 1, s => ∃ t, step s = .next t ∧ safeFor k t

end Sys2Proof.Machine
end

