-- ==== Sys2Proof/WellFormed.lean ====
section
/-! DEFINITION. Which terms of `Instr` are instructions. Every immediate of a constructor is a bit vector of exactly the width
its encoding has (`30_encoding.md` R135), so no operand can be out of range. -/

namespace Sys2Proof

/-- The row of the prefix byte is in the opcode table only so that all 256 direct bytes have one; the prefix byte is no
instruction of its own (`48_system.md` R395, `30_encoding.md` R136). -/
def Instr.isPrefixByte : Instr → Bool
  | .prefix_CB _ => true
  | _ => false

/-- An instruction: every row of the table but the prefix byte's. -/
def WellFormed (i : Instr) : Bool := !i.isPrefixByte

end Sys2Proof
end

