-- ==== Sys2Proof/Certificates/Slice0/Obligations.lean ====
section
/-! DEFINITION. The statements about the machine. An instruction is named by its operation `i.op`, so that a statement covers
every row of the operation, the prefixed rows by way of the prefix byte included; `EncodingFollowsFields` ties operations to
bytes. -/

open Sys2Proof Sys2Proof.Machine

/-! ## Encoding -/

/-- Every row's bytes are those its fields give (`30_encoding.md` R131 to R134, R137, R140 to R143). The second byte the encoder
gives STOP, 0x00, is the model's choice (log entry 11). -/
def Obligations.EncodingFollowsFields : Prop := ∀ i : Instr, encode i = i.op.encode

/-- Decoding the bytes of an instruction, with anything after them, gives the instruction and what came after (R130, R139). The
second byte the encoder gives STOP, 0x00, is the model's choice (log entry 11). -/
def Obligations.DecodeOfEncode : Prop :=
  ∀ (i : Instr) (rest : List Byte), WellFormed i = true → decode (encode i ++ rest) = .ok (i, rest)

/-- What decoding answers is an instruction whose bytes stand at the head of the sequence; STOP's second byte may be any
(R145). -/
def Obligations.EncodeOfDecode : Prop :=
  ∀ (bytes : List Byte) (i : Instr) (rest : List Byte), decode bytes = .ok (i, rest) →
    WellFormed i = true ∧ (i ≠ .stop → encode i ++ rest = bytes) ∧ (i = .stop → ∃ b, 0x10#8 :: b :: rest = bytes)

/-- The length is that of the first byte's descriptor, 1 to 3, and 2 after the prefix byte, and as many bytes always decode; the
eleven unused bytes, and only they, decode to an unused row, which carries the byte (R139, R130, R144). -/
def Obligations.LengthFromFirstByte : Prop :=
  ∀ (b0 b1 b2 c1 c2 : Byte) (rest : List Byte),
    (decodeBytes b0 b1 b2).length = (decodeBytes b0 c1 c2).length ∧
    1 ≤ (decodeBytes b0 b1 b2).length ∧ (decodeBytes b0 b1 b2).length ≤ 3 ∧
    (b0 = 0xCB#8 → (decodeBytes b0 b1 b2).length = 2) ∧
    decode (b0 :: b1 :: b2 :: rest) = .ok (decodeBytes b0 b1 b2, (b0 :: b1 :: b2 :: rest).drop (decodeBytes b0 b1 b2).length) ∧
    ∀ b, (decodeBytes b0 b1 b2).op = .unused b ↔
      b = b0 ∧ b0 ∈ [0xD3#8, 0xDB#8, 0xDD#8, 0xE3#8, 0xE4#8, 0xEB#8, 0xEC#8, 0xED#8, 0xF4#8, 0xFC#8, 0xFD#8]

/-- Nine words written out from the map decode to their instructions: the document's scenario, direct rows, prefixed rows, an unused
byte (R140 to R143). That a sequence too short for its instruction is refused, and by which names, is the model's choice (log entry
23): no rule speaks of one, since the bus always answers. -/
def Obligations.DecodedWords : Prop :=
  decode [0x31#8, 0xFF#8, 0xFF#8, 0x3E#8] = .ok (.ld_SP_N16 0xFFFF#16, [0x3E#8]) ∧
  decode [0x3E#8, 0x0B#8] = .ok (.ld_A_N8 0x0B#8, []) ∧
  decode [0xCD#8, 0x0A#8, 0x00#8] = .ok (.call_N16 0x000A#16, []) ∧
  decode [0x76#8] = .ok (.halt, []) ∧ decode [0x41#8] = .ok (.ld_B_C, []) ∧ decode [0x20#8, 0xFC#8] = .ok (.jr_NZ_E8 0xFC#8, []) ∧
  decode [0xCB#8, 0x7C#8] = .ok (.bit_7_H, []) ∧ decode [0xCB#8, 0xCB#8] = .ok (.set_1_E, []) ∧
  decode [0xD3#8] = .ok (.unused_D3, []) ∧ decode [0x01#8, 0x34#8] = .error (.truncated 0x01#8) ∧ decode [] = .error .noByte

/-! ## 8-bit loads -/

/-- LD r,r'; LD r,n8; LD r,(HL): the destination takes the value, the next instruction follows, and nothing else changes
(`41_load8.md` R231 to R233). -/
def Obligations.LoadRegister : Prop :=
  ∀ (i : Instr) (s : State) (dst : R8) (v : Byte) (length cost : Nat) (bytes : List Byte),
    (∃ src, i.op = .ldRR dst src ∧ v = s.r8 src ∧ length = 1 ∧ cost = 1 ∧ bytes = [byteOf (0x40 + 8 * dst.code + src.code)]) ∨
    (∃ n8, i.op = .ldRN dst n8 ∧ v = n8 ∧ length = 2 ∧ cost = 2 ∧ bytes = [byteOf (0x06 + 8 * dst.code), n8]) ∨
    (i.op = .ldRHl dst ∧ v = busRead s (s.pair .hl) ∧ length = 1 ∧ cost = 2 ∧ bytes = [byteOf (0x46 + 8 * dst.code)]) →
    HasRow i bytes length cost 0 ∧ ∃ t, exec i s = .next t ∧ t.r8 dst = v ∧
      RegsBut [dst.reg] s t ∧ KeepsSpIme s t ∧ Quiet s t ∧ FallsThrough s t i.op

/-- LD A,(BC); LD A,(DE); LDH A,(n8); LDH A,(C); LD A,(n16): A takes the byte at the address (R236, R237, R244, R246, R248). -/
def Obligations.LoadAccumulator : Prop :=
  ∀ (i : Instr) (s : State) (a : Addr) (length cost : Nat) (bytes : List Byte),
    (i.op = .ldAMem .bc ∧ a = s.pair .bc ∧ length = 1 ∧ cost = 2 ∧ bytes = [0x0A#8]) ∨
    (i.op = .ldAMem .de ∧ a = s.pair .de ∧ length = 1 ∧ cost = 2 ∧ bytes = [0x1A#8]) ∨
    (∃ n8 : Byte, i.op = .ldhAN n8 ∧ a = 0xFF00#16 + n8.setWidth 16 ∧ length = 2 ∧ cost = 3 ∧ bytes = [0xF0#8, n8]) ∨
    (i.op = .ldhAC ∧ a = 0xFF00#16 + (s.r8 .c).setWidth 16 ∧ length = 1 ∧ cost = 2 ∧ bytes = [0xF2#8]) ∨
    (i.op = .ldANn a ∧ length = 3 ∧ cost = 4 ∧ bytes = [0xFA#8, a.setWidth 8, (a >>> 8).setWidth 8]) →
    HasRow i bytes length cost 0 ∧ ∃ t, exec i s = .next t ∧ t.reg .a = busRead s a ∧
      RegsBut [.a] s t ∧ KeepsSpIme s t ∧ Quiet s t ∧ FallsThrough s t i.op

/-- LD (HL),r; LD (HL),n8; LD (BC),A; LD (DE),A; LDH (n8),A; LDH (C),A; LD (n16),A: the byte is stored at the address and nowhere
else; no register changes (R234, R235, R238, R239, R245, R247, R249). -/
def Obligations.StoreByte : Prop :=
  ∀ (i : Instr) (s : State) (a : Addr) (v : Byte) (length cost : Nat) (bytes : List Byte),
    (∃ r, i.op = .ldHlR r ∧ a = s.pair .hl ∧ v = s.r8 r ∧ length = 1 ∧ cost = 2 ∧ bytes = [byteOf (0x70 + r.code)]) ∨
    (i.op = .ldHlN v ∧ a = s.pair .hl ∧ length = 2 ∧ cost = 3 ∧ bytes = [0x36#8, v]) ∨
    (i.op = .ldMemA .bc ∧ a = s.pair .bc ∧ v = s.reg .a ∧ length = 1 ∧ cost = 2 ∧ bytes = [0x02#8]) ∨
    (i.op = .ldMemA .de ∧ a = s.pair .de ∧ v = s.reg .a ∧ length = 1 ∧ cost = 2 ∧ bytes = [0x12#8]) ∨
    (∃ n8 : Byte, i.op = .ldhNA n8 ∧ a = 0xFF00#16 + n8.setWidth 16 ∧ v = s.reg .a ∧ length = 2 ∧ cost = 3 ∧
      bytes = [0xE0#8, n8]) ∨
    (i.op = .ldhCA ∧ a = 0xFF00#16 + (s.r8 .c).setWidth 16 ∧ v = s.reg .a ∧ length = 1 ∧ cost = 2 ∧ bytes = [0xE2#8]) ∨
    (i.op = .ldNnA a ∧ v = s.reg .a ∧ length = 3 ∧ cost = 4 ∧ bytes = [0xEA#8, a.setWidth 8, (a >>> 8).setWidth 8]) →
    HasRow i bytes length cost 0 ∧ ∃ t, exec i s = .next t ∧
      StoredByte s t a v ∧ RegsBut [] s t ∧ KeepsSpIme s t ∧ FallsThrough s t i.op

/-- LD A,(HL+), LD A,(HL-), LD (HL+),A, LD (HL-),A: the access uses the old HL, then HL moves by one, modulo 2^16 (R240 to
R243). -/
def Obligations.LoadStoreStepHl : Prop :=
  ∀ (i : Instr) (s : State) (a : Addr), s.pair .hl = a →
    (i.op = .ldAMem .hlInc → HasRow i [0x2A#8] 1 2 0 ∧ ∃ t, exec i s = .next t ∧ t.reg .a = busRead s a ∧
      t.pair .hl = a + 1#16 ∧ RegsBut [.a, .h, .l] s t ∧ KeepsSpIme s t ∧ Quiet s t ∧ FallsThrough s t i.op) ∧
    (i.op = .ldAMem .hlDec → HasRow i [0x3A#8] 1 2 0 ∧ ∃ t, exec i s = .next t ∧ t.reg .a = busRead s a ∧
      t.pair .hl = a - 1#16 ∧ RegsBut [.a, .h, .l] s t ∧ KeepsSpIme s t ∧ Quiet s t ∧ FallsThrough s t i.op) ∧
    (i.op = .ldMemA .hlInc → HasRow i [0x22#8] 1 2 0 ∧ ∃ t, exec i s = .next t ∧ StoredByte s t a (s.reg .a) ∧
      t.pair .hl = a + 1#16 ∧ RegsBut [.h, .l] s t ∧ KeepsSpIme s t ∧ FallsThrough s t i.op) ∧
    (i.op = .ldMemA .hlDec → HasRow i [0x32#8] 1 2 0 ∧ ∃ t, exec i s = .next t ∧ StoredByte s t a (s.reg .a) ∧
      t.pair .hl = a - 1#16 ∧ RegsBut [.h, .l] s t ∧ KeepsSpIme s t ∧ FallsThrough s t i.op)

/-! ## 16-bit loads and the stack -/

/-- LD rr,n16 and LD SP,HL (`42_load16_stack.md` R260, R261). -/
def Obligations.LoadPair : Prop :=
  ∀ (i : Instr) (s : State) (n16 : Addr),
    (∀ p q, i.op = .ldPairN p n16 → pairOf p = some q →
      HasRow i [byteOf (0x01 + 16 * p.code), n16.setWidth 8, (n16 >>> 8).setWidth 8] 3 3 0 ∧
      ∃ t, exec i s = .next t ∧ t.pair q = n16 ∧ RegsBut [(Pair.regs q).1, (Pair.regs q).2] s t ∧ KeepsSpIme s t ∧
        Quiet s t ∧ FallsThrough s t i.op) ∧
    (i.op = .ldPairN .sp n16 → HasRow i [0x31#8, n16.setWidth 8, (n16 >>> 8).setWidth 8] 3 3 0 ∧
      ∃ t, exec i s = .next t ∧ t.cpu.sp = n16 ∧ RegsBut [] s t ∧ t.cpu.ime = s.cpu.ime ∧ Quiet s t ∧ FallsThrough s t i.op) ∧
    (i.op = .ldSpHl → HasRow i [0xF9#8] 1 2 0 ∧
      ∃ t, exec i s = .next t ∧ t.cpu.sp = s.pair .hl ∧ RegsBut [] s t ∧ t.cpu.ime = s.cpu.ime ∧ Quiet s t ∧
        FallsThrough s t i.op)

/-- LD (n16),SP stores the stack pointer at n16; PUSH lowers sp by 2 and stores the pair there; low byte first (R262, R263). -/
def Obligations.StoreSpAndPush : Prop :=
  ∀ (i : Instr) (s : State),
    (∀ n16, i.op = .ldNnSp n16 → HasRow i [0x08#8, n16.setWidth 8, (n16 >>> 8).setWidth 8] 3 5 0 ∧
      ∃ t, exec i s = .next t ∧ StoredWord s t n16 s.cpu.sp ∧ RegsBut [] s t ∧ KeepsSpIme s t ∧ FallsThrough s t i.op) ∧
    (∀ p, i.op = .push p → HasRow i [byteOf (0xC5 + 16 * p.code)] 1 4 0 ∧
      ∃ t, exec i s = .next t ∧ t.cpu.sp = s.cpu.sp - 2#16 ∧ StoredWord s t (s.cpu.sp - 2#16) (s.pair p) ∧
        RegsBut [] s t ∧ t.cpu.ime = s.cpu.ime ∧ FallsThrough s t i.op)

/-- POP: the two bytes at sp go to the pair, low byte first, sp is 2 higher; through AF the low nibble of F is 0 and the flags
are the popped byte's (R264, `10_state.md` R25). -/
def Obligations.PopPair : Prop :=
  ∀ (i : Instr) (s : State) (p : Pair), i.op = .pop p → HasRow i [byteOf (0xC1 + 16 * p.code)] 1 3 0 ∧
    ∃ t, exec i s = .next t ∧ t.reg (Pair.regs p).1 = busRead s (s.cpu.sp + 1#16) ∧
      t.reg (Pair.regs p).2 = (if p = .af then busRead s s.cpu.sp &&& 0xF0#8 else busRead s s.cpu.sp) ∧
      t.cpu.sp = s.cpu.sp + 2#16 ∧ RegsBut [(Pair.regs p).1, (Pair.regs p).2] s t ∧ t.cpu.ime = s.cpu.ime ∧ Quiet s t ∧
      FallsThrough s t i.op

/-! ## 8-bit arithmetic and logic -/

/-- ADD and ADC of every operand form: the sum with the incoming carry, and the flags of the carries out of bits 3 and 7
(`43_alu8.md` R281 to R286, `40_bitops_alu.md` R192). -/
def Obligations.AddAndAdc : Prop :=
  ∀ (i : Instr) (s : State) (o : AluOp) (x : Byte) (length cost : Nat) (bytes : List Byte) (c : Nat),
    AluForm i s o x length cost bytes → (o = .add ∧ c = 0) ∨ (o = .adc ∧ c = s.flags.c.toNat) →
    HasRow i bytes length cost 0 ∧ ∃ t, exec i s = .next t ∧
      t.reg .a = BitVec.ofNat 8 ((s.reg .a).toNat + x.toNat + c) ∧
      t.flags = { z := decide (t.reg .a = 0#8), n := false
                  h := decide ((s.reg .a).toNat % 16 + x.toNat % 16 + c > 0xF)
                  c := decide ((s.reg .a).toNat + x.toNat + c > 0xFF) } ∧
      FlagsClean t ∧ RegsBut [.a, .f] s t ∧ KeepsSpIme s t ∧ Quiet s t ∧ FallsThrough s t i.op

/-- SUB, SBC and CP of every operand form: the difference with the incoming borrow, which CP does not store, and the flags of
the borrows (R287 to R292, R302 to R304, R195). -/
def Obligations.SubSbcAndCp : Prop :=
  ∀ (i : Instr) (s : State) (o : AluOp) (x : Byte) (length cost : Nat) (bytes : List Byte) (b : Nat) (v : Byte),
    AluForm i s o x length cost bytes → ((o = .sub ∨ o = .cp) ∧ b = 0) ∨ (o = .sbc ∧ b = s.flags.c.toNat) →
    v = BitVec.ofInt 8 ((s.reg .a).toNat - x.toNat - b) →
    HasRow i bytes length cost 0 ∧ ∃ t, exec i s = .next t ∧
      t.reg .a = (if o = .cp then s.reg .a else v) ∧
      t.flags = { z := decide (v = 0#8), n := true
                  h := decide ((s.reg .a).toNat % 16 < x.toNat % 16 + b)
                  c := decide ((s.reg .a).toNat < x.toNat + b) } ∧
      FlagsClean t ∧ RegsBut [.a, .f] s t ∧ KeepsSpIme s t ∧ Quiet s t ∧ FallsThrough s t i.op

/-- AND, XOR and OR of every operand form; AND sets H (R293 to R301, R197 to R199). -/
def Obligations.AndXorAndOr : Prop :=
  ∀ (i : Instr) (s : State) (o : AluOp) (x : Byte) (length cost : Nat) (bytes : List Byte) (v : Byte),
    AluForm i s o x length cost bytes →
    (o = .and ∧ v = s.reg .a &&& x) ∨ (o = .xor ∧ v = s.reg .a ^^^ x) ∨ (o = .or ∧ v = s.reg .a ||| x) →
    HasRow i bytes length cost 0 ∧ ∃ t, exec i s = .next t ∧ t.reg .a = v ∧
      t.flags = { z := decide (v = 0#8), n := false, h := decide (o = .and), c := false } ∧
      FlagsClean t ∧ RegsBut [.a, .f] s t ∧ KeepsSpIme s t ∧ Quiet s t ∧ FallsThrough s t i.op

/-- INC r, DEC r, INC (HL), DEC (HL): by one modulo 2^8, C kept; the byte at HL is read and stored at the same address (R305 to
R308). -/
def Obligations.IncDecByte : Prop :=
  ∀ (i : Instr) (s : State) (r : R8) (a : Addr) (v : Byte) (inc dec : Flags), s.pair .hl = a →
    (inc = { z := decide (v = 0xFF#8), n := false, h := decide (v.toNat % 16 = 15), c := s.flags.c }) →
    (dec = { z := decide (v = 1#8), n := true, h := decide (v.toNat % 16 = 0), c := s.flags.c }) →
    (i.op = .incR r → v = s.r8 r → HasRow i [byteOf (0x04 + 8 * r.code)] 1 1 0 ∧ ∃ t, exec i s = .next t ∧ t.r8 r = v + 1#8 ∧
      t.flags = inc ∧ FlagsClean t ∧ RegsBut [r.reg, .f] s t ∧ KeepsSpIme s t ∧ Quiet s t ∧ FallsThrough s t i.op) ∧
    (i.op = .decR r → v = s.r8 r → HasRow i [byteOf (0x05 + 8 * r.code)] 1 1 0 ∧ ∃ t, exec i s = .next t ∧ t.r8 r = v - 1#8 ∧
      t.flags = dec ∧ FlagsClean t ∧ RegsBut [r.reg, .f] s t ∧ KeepsSpIme s t ∧ Quiet s t ∧ FallsThrough s t i.op) ∧
    (i.op = .incHl → v = busRead s a → HasRow i [0x34#8] 1 3 0 ∧ ∃ t, exec i s = .next t ∧ StoredByte s t a (v + 1#8) ∧
      t.flags = inc ∧ FlagsClean t ∧ RegsBut [.f] s t ∧ KeepsSpIme s t ∧ FallsThrough s t i.op) ∧
    (i.op = .decHl → v = busRead s a → HasRow i [0x35#8] 1 3 0 ∧ ∃ t, exec i s = .next t ∧ StoredByte s t a (v - 1#8) ∧
      t.flags = dec ∧ FlagsClean t ∧ RegsBut [.f] s t ∧ KeepsSpIme s t ∧ FallsThrough s t i.op)

/-- CPL, SCF and CCF (R310 to R312). -/
def Obligations.ComplementAndCarry : Prop :=
  ∀ (i : Instr) (s : State),
    (i.op = .cpl → HasRow i [0x2F#8] 1 1 0 ∧ ∃ t, exec i s = .next t ∧ t.reg .a = ~~~s.reg .a ∧
      t.flags = { z := s.flags.z, n := true, h := true, c := s.flags.c } ∧
      FlagsClean t ∧ RegsBut [.a, .f] s t ∧ KeepsSpIme s t ∧ Quiet s t ∧ FallsThrough s t i.op) ∧
    (i.op = .scf → HasRow i [0x37#8] 1 1 0 ∧ ∃ t, exec i s = .next t ∧
      t.flags = { z := s.flags.z, n := false, h := false, c := true } ∧
      FlagsClean t ∧ RegsBut [.f] s t ∧ KeepsSpIme s t ∧ Quiet s t ∧ FallsThrough s t i.op) ∧
    (i.op = .ccf → HasRow i [0x3F#8] 1 1 0 ∧ ∃ t, exec i s = .next t ∧
      t.flags = { z := s.flags.z, n := false, h := false, c := !s.flags.c } ∧
      FlagsClean t ∧ RegsBut [.f] s t ∧ KeepsSpIme s t ∧ Quiet s t ∧ FallsThrough s t i.op)

/-- DAA: the correction by 0x06 and 0x60 that N, H, C and A call for; N is kept, H is cleared, C says whether 0x60 was used
(R309, R196). -/
def Obligations.DecimalAdjust : Prop :=
  ∀ (i : Instr) (s : State) (fixL fixH : Bool) (fix : Nat), i.op = .daa →
    fixL = (s.flags.h || (!s.flags.n && decide ((s.reg .a).toNat % 16 > 9))) →
    fixH = (s.flags.c || (!s.flags.n && decide ((s.reg .a).toNat > 0x99))) →
    fix = (if fixH then 0x60 else 0) + (if fixL then 0x06 else 0) →
    HasRow i [0x27#8] 1 1 0 ∧ ∃ t, exec i s = .next t ∧
      t.reg .a = BitVec.ofInt 8 (if s.flags.n then (s.reg .a).toNat - fix else (s.reg .a).toNat + fix) ∧
      t.flags = { z := decide (t.reg .a = 0#8), n := s.flags.n, h := false, c := fixH } ∧
      FlagsClean t ∧ RegsBut [.a, .f] s t ∧ KeepsSpIme s t ∧ Quiet s t ∧ FallsThrough s t i.op

/-- DAA after ADD of two bytes of two decimal digits each: A holds the two low decimal digits of the sum and C says whether the
sum reached 100 (R309's first corner case). -/
def Obligations.DecimalAddition : Prop :=
  ∀ (s t u : State) (r : R8) (x1 x0 y1 y0 : Nat) (i j : Instr), x1 ≤ 9 → x0 ≤ 9 → y1 ≤ 9 → y0 ≤ 9 →
    s.reg .a = byteOf (16 * x1 + x0) → s.r8 r = byteOf (16 * y1 + y0) → i.op = .aluR .add r → j.op = .daa →
    exec i s = .next t → exec j t = .next u →
    (u.reg .a).toNat = 16 * ((10 * x1 + x0 + (10 * y1 + y0)) % 100 / 10) + (10 * x1 + x0 + (10 * y1 + y0)) % 10 ∧
    u.flags.c = decide (10 * x1 + x0 + (10 * y1 + y0) ≥ 100)

/-! ## 16-bit arithmetic -/

/-- ADD HL,rr: the sum modulo 2^16, H the carry out of bit 11, C the carry out of bit 15, Z kept (`44_alu16.md` R320). -/
def Obligations.AddToHl : Prop :=
  ∀ (i : Instr) (s : State) (p : R16sp) (x : Addr), i.op = .addHl p →
    x = (match pairOf p with | some q => s.pair q | none => s.cpu.sp) →
    HasRow i [byteOf (0x09 + 16 * p.code)] 1 2 0 ∧ ∃ t, exec i s = .next t ∧ t.pair .hl = s.pair .hl + x ∧
      t.flags = { z := s.flags.z, n := false, h := decide ((s.pair .hl).toNat % 4096 + x.toNat % 4096 > 0xFFF)
                  c := decide ((s.pair .hl).toNat + x.toNat > 0xFFFF) } ∧
      FlagsClean t ∧ RegsBut [.h, .l, .f] s t ∧ KeepsSpIme s t ∧ Quiet s t ∧ FallsThrough s t i.op

/-- INC rr and DEC rr: by one modulo 2^16, no flag (R321, R322). -/
def Obligations.IncDecPair : Prop :=
  ∀ (i : Instr) (s : State) (p : R16sp),
    (∀ q, i.op = .incPair p → pairOf p = some q → HasRow i [byteOf (0x03 + 16 * p.code)] 1 2 0 ∧
      ∃ t, exec i s = .next t ∧ t.pair q = s.pair q + 1#16 ∧ RegsBut [(Pair.regs q).1, (Pair.regs q).2] s t ∧
        KeepsSpIme s t ∧ Quiet s t ∧ FallsThrough s t i.op) ∧
    (∀ q, i.op = .decPair p → pairOf p = some q → HasRow i [byteOf (0x0B + 16 * p.code)] 1 2 0 ∧
      ∃ t, exec i s = .next t ∧ t.pair q = s.pair q - 1#16 ∧ RegsBut [(Pair.regs q).1, (Pair.regs q).2] s t ∧
        KeepsSpIme s t ∧ Quiet s t ∧ FallsThrough s t i.op) ∧
    (i.op = .incPair .sp → HasRow i [0x33#8] 1 2 0 ∧ ∃ t, exec i s = .next t ∧ t.cpu.sp = s.cpu.sp + 1#16 ∧
      RegsBut [] s t ∧ t.cpu.ime = s.cpu.ime ∧ Quiet s t ∧ FallsThrough s t i.op) ∧
    (i.op = .decPair .sp → HasRow i [0x3B#8] 1 2 0 ∧ ∃ t, exec i s = .next t ∧ t.cpu.sp = s.cpu.sp - 1#16 ∧
      RegsBut [] s t ∧ t.cpu.ime = s.cpu.ime ∧ Quiet s t ∧ FallsThrough s t i.op)

/-- ADD SP,e8 and LD HL,SP+e8: the signed displacement is added modulo 2^16; Z and N are cleared, H and C are the carries out of
bits 3 and 7 of the unsigned sum of the low byte of sp and the byte e8 (R323, R324). -/
def Obligations.AddSignedToSp : Prop :=
  ∀ (i : Instr) (s : State) (e8 : Byte) (f : Flags),
    f = { z := false, n := false, h := decide (s.cpu.sp.toNat % 16 + e8.toNat % 16 > 0xF)
          c := decide (s.cpu.sp.toNat % 256 + e8.toNat > 0xFF) } →
    (i.op = .addSp e8 → HasRow i [0xE8#8, e8] 2 4 0 ∧ ∃ t, exec i s = .next t ∧
      t.cpu.sp = BitVec.ofInt 16 (s.cpu.sp.toNat + e8.toInt) ∧ t.flags = f ∧
      FlagsClean t ∧ RegsBut [.f] s t ∧ t.cpu.ime = s.cpu.ime ∧ Quiet s t ∧ FallsThrough s t i.op) ∧
    (i.op = .ldHlSp e8 → HasRow i [0xF8#8, e8] 2 3 0 ∧ ∃ t, exec i s = .next t ∧
      t.pair .hl = BitVec.ofInt 16 (s.cpu.sp.toNat + e8.toInt) ∧ t.flags = f ∧
      FlagsClean t ∧ RegsBut [.h, .l, .f] s t ∧ KeepsSpIme s t ∧ Quiet s t ∧ FallsThrough s t i.op)

/-! ## Rotates, shifts, bits -/

/-- RLCA, RRCA, RLA, RRA: the rotate of A; Z, N and H are cleared, C is the ejected bit (`45_rotate_shift.md` R331 to R334). -/
def Obligations.RotateAccumulator : Prop :=
  ∀ (i : Instr) (s : State) (o : ShiftOp) (byte : Byte),
    (i.op = .rlca ∧ o = .rlc ∧ byte = 0x07#8) ∨ (i.op = .rrca ∧ o = .rrc ∧ byte = 0x0F#8) ∨
    (i.op = .rla ∧ o = .rl ∧ byte = 0x17#8) ∨ (i.op = .rra ∧ o = .rr ∧ byte = 0x1F#8) →
    HasRow i [byte] 1 1 0 ∧ ∃ t, exec i s = .next t ∧ t.reg .a = shiftValue o (s.reg .a) s.flags.c ∧
      t.flags = { z := false, n := false, h := false, c := shiftCarry o (s.reg .a) } ∧
      FlagsClean t ∧ RegsBut [.a, .f] s t ∧ KeepsSpIme s t ∧ Quiet s t ∧ FallsThrough s t i.op

/-- The prefixed rotates, shifts and SWAP of a register: Z of the result, N and H cleared, C the ejected bit (R335, R337, R339,
R341, R343, R345, R347, R349). -/
def Obligations.ShiftRegister : Prop :=
  ∀ (i : Instr) (s : State) (o : ShiftOp) (r : R8) (v : Byte), i.op = .shiftR o r → v = shiftValue o (s.r8 r) s.flags.c →
    HasRow i [0xCB#8, byteOf (8 * o.code + r.code)] 2 2 0 ∧ ∃ t, exec i s = .next t ∧ t.r8 r = v ∧
      t.flags = { z := decide (v = 0#8), n := false, h := false, c := shiftCarry o (s.r8 r) } ∧
      FlagsClean t ∧ RegsBut [r.reg, .f] s t ∧ KeepsSpIme s t ∧ Quiet s t ∧ FallsThrough s t i.op

/-- The prefixed rotates, shifts and SWAP of the byte at HL, which is read and stored at the same address (R336, R338, R340, R342,
R344, R346, R348, R350). -/
def Obligations.ShiftAtHl : Prop :=
  ∀ (i : Instr) (s : State) (o : ShiftOp) (a : Addr) (v : Byte), i.op = .shiftHl o → s.pair .hl = a →
    v = shiftValue o (busRead s a) s.flags.c →
    HasRow i [0xCB#8, byteOf (8 * o.code + 6)] 2 4 0 ∧ ∃ t, exec i s = .next t ∧ StoredByte s t a v ∧
      t.flags = { z := decide (v = 0#8), n := false, h := false, c := shiftCarry o (busRead s a) } ∧
      FlagsClean t ∧ RegsBut [.f] s t ∧ KeepsSpIme s t ∧ FallsThrough s t i.op

/-- BIT b of a register and of the byte at HL: Z is the complement of the bit, N cleared, H set, C kept; nothing is written
(`46_bit.md` R360, R361). -/
def Obligations.TestBit : Prop :=
  ∀ (i : Instr) (s : State) (b : Fin 8) (v : Byte) (cost : Nat) (second : Byte),
    (∃ r, i.op = .bitR b r ∧ v = s.r8 r ∧ cost = 2 ∧ second = byteOf (0x40 + 8 * b.val + r.code)) ∨
    (i.op = .bitHl b ∧ v = busRead s (s.pair .hl) ∧ cost = 3 ∧ second = byteOf (0x46 + 8 * b.val)) →
    HasRow i [0xCB#8, second] 2 cost 0 ∧ ∃ t, exec i s = .next t ∧
      t.flags = { z := !v.getLsbD b.val, n := false, h := true, c := s.flags.c } ∧
      FlagsClean t ∧ RegsBut [.f] s t ∧ KeepsSpIme s t ∧ Quiet s t ∧ FallsThrough s t i.op

/-- RES b and SET b of a register and of the byte at HL, which is read and stored at the same address: the one bit, no flag (R362
to R365). -/
def Obligations.ResetSetBit : Prop :=
  ∀ (i : Instr) (s : State) (b : Fin 8) (r : R8) (a : Addr), s.pair .hl = a →
    (i.op = .resR b r → HasRow i [0xCB#8, byteOf (0x80 + 8 * b.val + r.code)] 2 2 0 ∧ ∃ t, exec i s = .next t ∧
      (∀ k, (t.r8 r).getLsbD k = ((s.r8 r).getLsbD k && decide (k ≠ b.val))) ∧
      RegsBut [r.reg] s t ∧ KeepsSpIme s t ∧ Quiet s t ∧ FallsThrough s t i.op) ∧
    (i.op = .setR b r → HasRow i [0xCB#8, byteOf (0xC0 + 8 * b.val + r.code)] 2 2 0 ∧ ∃ t, exec i s = .next t ∧
      (∀ k, (t.r8 r).getLsbD k = ((s.r8 r).getLsbD k || decide (k = b.val))) ∧
      RegsBut [r.reg] s t ∧ KeepsSpIme s t ∧ Quiet s t ∧ FallsThrough s t i.op) ∧
    (i.op = .resHl b → HasRow i [0xCB#8, byteOf (0x86 + 8 * b.val)] 2 4 0 ∧ ∃ t, exec i s = .next t ∧
      StoredByte s t a (busRead s a &&& ~~~(1#8 <<< b.val)) ∧ RegsBut [] s t ∧ KeepsSpIme s t ∧ FallsThrough s t i.op) ∧
    (i.op = .setHl b → HasRow i [0xCB#8, byteOf (0xC6 + 8 * b.val)] 2 4 0 ∧ ∃ t, exec i s = .next t ∧
      StoredByte s t a (busRead s a ||| (1#8 <<< b.val)) ∧ RegsBut [] s t ∧ KeepsSpIme s t ∧ FallsThrough s t i.op)

/-! ## Control -/

/-- JP n16, JP HL and JR e8: only `pc` and the next active cycle change; JP cc,n16 and JR cc,e8: the same if the condition holds,
at the base and the extra cost, else the next instruction follows at the base cost; JR is relative to the next instruction
(`47_control.md` R370 to R374, `30_encoding.md` R134). -/
def Obligations.Jumps : Prop :=
  ∀ (i : Instr) (s : State) (n16 : Addr) (e8 : Byte) (cc : Cond) (holds : Bool) (rel : Addr),
    holds = (match cc with | .nz => !s.flags.z | .z => s.flags.z | .nc => !s.flags.c | .c => s.flags.c) →
    rel = BitVec.ofInt 16 (s.cpu.pc.toNat + (s.descriptor i.op).length + e8.toInt) →
    (i.op = .jp n16 → HasRow i [0xC3#8, n16.setWidth 8, (n16 >>> 8).setWidth 8] 3 4 0 ∧
      ∃ t, exec i s = .next t ∧ RegsBut [] s t ∧ KeepsSpIme s t ∧ Quiet s t ∧ GoesTo s t i.op n16) ∧
    (i.op = .jpHl → HasRow i [0xE9#8] 1 1 0 ∧
      ∃ t, exec i s = .next t ∧ RegsBut [] s t ∧ KeepsSpIme s t ∧ Quiet s t ∧ GoesTo s t i.op (s.pair .hl)) ∧
    (i.op = .jr e8 → HasRow i [0x18#8, e8] 2 3 0 ∧
      ∃ t, exec i s = .next t ∧ RegsBut [] s t ∧ KeepsSpIme s t ∧ Quiet s t ∧ GoesTo s t i.op rel) ∧
    (i.op = .jpCc cc n16 → HasRow i [byteOf (0xC2 + 8 * cc.code), n16.setWidth 8, (n16 >>> 8).setWidth 8] 3 3 1 ∧
      ∃ t, exec i s = .next t ∧ RegsBut [] s t ∧ KeepsSpIme s t ∧ Quiet s t ∧
        (if holds then TakenTo s t i.op n16 else FallsThrough s t i.op)) ∧
    (i.op = .jrCc cc e8 → HasRow i [byteOf (0x20 + 8 * cc.code), e8] 2 2 1 ∧
      ∃ t, exec i s = .next t ∧ RegsBut [] s t ∧ KeepsSpIme s t ∧ Quiet s t ∧
        (if holds then TakenTo s t i.op rel else FallsThrough s t i.op))

/-- CALL n16, CALL cc,n16 and RST: the address of the next instruction is pushed, low byte first, and control goes to the target; a
call not taken does neither (R375, R376, R380). -/
def Obligations.CallsAndRestarts : Prop :=
  ∀ (i : Instr) (s : State) (after : Addr), after = s.cpu.pc + BitVec.ofNat 16 (s.descriptor i.op).length →
    (∀ n16, i.op = .call n16 → HasRow i [0xCD#8, n16.setWidth 8, (n16 >>> 8).setWidth 8] 3 6 0 ∧
      ∃ t, exec i s = .next t ∧ t.cpu.sp = s.cpu.sp - 2#16 ∧ StoredWord s t (s.cpu.sp - 2#16) after ∧
        RegsBut [] s t ∧ t.cpu.ime = s.cpu.ime ∧ GoesTo s t i.op n16) ∧
    (∀ cc n16, i.op = .callCc cc n16 →
      HasRow i [byteOf (0xC4 + 8 * cc.code), n16.setWidth 8, (n16 >>> 8).setWidth 8] 3 3 3 ∧
      ∃ t, exec i s = .next t ∧ RegsBut [] s t ∧ t.cpu.ime = s.cpu.ime ∧
        (s.cond cc = true → t.cpu.sp = s.cpu.sp - 2#16 ∧ StoredWord s t (s.cpu.sp - 2#16) after ∧ TakenTo s t i.op n16) ∧
        (s.cond cc = false → t.cpu.sp = s.cpu.sp ∧ Quiet s t ∧ FallsThrough s t i.op)) ∧
    (∀ y : Fin 8, i.op = .rst y → HasRow i [byteOf (0xC7 + 8 * y.val)] 1 4 0 ∧
      ∃ t, exec i s = .next t ∧ t.cpu.sp = s.cpu.sp - 2#16 ∧ StoredWord s t (s.cpu.sp - 2#16) after ∧
        RegsBut [] s t ∧ t.cpu.ime = s.cpu.ime ∧ GoesTo s t i.op (BitVec.ofNat 16 (8 * y.val)))

/-- RET, RET cc and RETI: control goes to the 16-bit value at sp, low byte first, and sp is 2 higher; RETI also sets `ime`, so that
the Cpu's next act is the service of a ready interrupt; a return not taken touches neither (R377 to R379). -/
def Obligations.Returns : Prop :=
  ∀ (i : Instr) (s : State) (target : Addr), target = busRead s (s.cpu.sp + 1#16) ++ busRead s s.cpu.sp →
    (i.op = .ret → HasRow i [0xC9#8] 1 4 0 ∧ ∃ t, exec i s = .next t ∧ t.cpu.sp = s.cpu.sp + 2#16 ∧ RegsBut [] s t ∧
      t.cpu.ime = s.cpu.ime ∧ Quiet s t ∧ GoesTo s t i.op target) ∧
    (∀ cc, i.op = .retCc cc → HasRow i [byteOf (0xC0 + 8 * cc.code)] 1 2 3 ∧ ∃ t, exec i s = .next t ∧ RegsBut [] s t ∧
      t.cpu.ime = s.cpu.ime ∧ Quiet s t ∧
      (s.cond cc = true → t.cpu.sp = s.cpu.sp + 2#16 ∧ TakenTo s t i.op target) ∧
      (s.cond cc = false → t.cpu.sp = s.cpu.sp ∧ FallsThrough s t i.op)) ∧
    (i.op = .reti → HasRow i [0xD9#8] 1 4 0 ∧ ∃ t, exec i s = .next t ∧ t.cpu.sp = s.cpu.sp + 2#16 ∧ RegsBut [] s t ∧
      t.cpu.ime = true ∧ Quiet s t ∧ GoesTo s t i.op target ∧
      (t.cpu.ie &&& t.cpu.iflag &&& 0x1F#8 ≠ 0#8 → cpuAct t = .next (serviceInterrupt t)))

/-! ## System -/

/-- NOP does nothing but pass; DI clears and EI sets `ime`, at once, so that the Cpu's next act is an instruction after DI and the
service of a ready interrupt after EI; HALT moves `pc` on, and the Cpu acts again only when a source is pending and enabled,
whatever `ime` holds (`48_system.md` R390, R391, R393, R394). -/
def Obligations.NopHaltDiEi : Prop :=
  ∀ (i : Instr) (s : State) (ime : Bool) (byte : Byte) (next : Option Nat),
    (i.op = .nop ∧ ime = s.cpu.ime ∧ byte = 0x00#8 ∧ next = some (s.cyc + (s.descriptor .nop).cycles)) ∨
    (i.op = .di ∧ ime = false ∧ byte = 0xF3#8 ∧ next = some (s.cyc + (s.descriptor .di).cycles)) ∨
    (i.op = .ei ∧ ime = true ∧ byte = 0xFB#8 ∧ next = some (s.cyc + (s.descriptor .ei).cycles)) ∨
    (i.op = .halt ∧ ime = s.cpu.ime ∧ byte = 0x76#8 ∧ next = none) →
    HasRow i [byte] 1 1 0 ∧ ∃ t, exec i s = .next t ∧ t.cpu.ime = ime ∧ t.cpu.sp = s.cpu.sp ∧ RegsBut [] s t ∧ Quiet s t ∧
      t.cpu.pc = s.cpu.pc + BitVec.ofNat 16 (s.descriptor i.op).length ∧ t.cpu.next = next ∧ t.cyc = s.cyc ∧
      t.fault = s.fault ∧ t.params = s.params ∧
      (i.op = .di → cpuAct t = exec (fetch t) t) ∧
      (i.op = .ei → t.cpu.ie &&& t.cpu.iflag &&& 0x1F#8 ≠ 0#8 → cpuAct t = .next (serviceInterrupt t)) ∧
      (i.op = .halt → ∀ u : State, u.cpu.next = t.cpu.next →
        (u.cpu.ie &&& u.cpu.iflag &&& 0x1F#8 = 0#8 → cpuStep u = .next u) ∧
        (u.cpu.ie &&& u.cpu.iflag &&& 0x1F#8 ≠ 0#8 →
          cpuStep u = cpuAct { u with cpu := { u.cpu with next := some u.cyc } }))

/-- The eleven unused bytes, and they alone, have a row whose execution latches their fault; STOP latches its own, whatever its
second byte; nothing else changes (R392, `30_encoding.md` R144, R145). The spec gives STOP no second byte to write: the 0x00 of
`encode` is the model's choice (log entry 11), and the clause about it says no more than that choice. -/
def Obligations.StopAndUnused : Prop :=
  ∀ (i : Instr) (s : State) (b b1 b2 : Byte),
    (i.op = .stop → encode i = [0x10#8, 0x00#8] ∧ exec i s = .next { s with fault := some .stop }) ∧
    decodeBytes 0x10#8 b1 b2 = .stop ∧
    (i.op = .unused b → encode i = [b] ∧ exec i s = .next { s with fault := some (.illegal b) }) ∧
    ((decodeBytes b b1 b2).op = .unused b ↔
      b ∈ [0xD3#8, 0xDB#8, 0xDD#8, 0xE3#8, 0xE4#8, 0xEB#8, 0xEC#8, 0xED#8, 0xF4#8, 0xFC#8, 0xFD#8])

/-! ## The step -/

/-- At an acting cycle with no interrupt to service, a step is: the Timer, the LCD controller (its enable, its DMA byte, its action)
and the wake test, in that order (`BeforeCpu`), then the instruction the bytes at `pc` decode to, then the counter, which stays if
the instruction raised a fault. -/
def Obligations.StepRunsDecoded : Prop :=
  ∀ (s w : State) (i : Instr) (rest : List Byte), s.fault = none → BeforeCpu s w → w.cpu.next = some s.cyc →
    w.cpu.ime = false ∨ w.cpu.ie &&& w.cpu.iflag &&& 0x1F#8 = 0#8 →
    decode [busRead w w.cpu.pc, busRead w (w.cpu.pc + 1#16), busRead w (w.cpu.pc + 2#16)] = .ok (i, rest) →
    step s = (match exec i w with
      | .next t => .next (if t.fault = none then { t with cyc := s.cyc + 1 } else t)
      | .fault k => .fault k
      | .refused r => .refused r)

/-- At an acting cycle with `ime` set and a source pending and enabled, a step services it and fetches nothing; on a cycle that is
not the Cpu's, a step is the devices' and the counter's alone; the devices' part is that of `BeforeCpu`. -/
def Obligations.StepServicesOrIdles : Prop :=
  ∀ (s w : State), s.fault = none → BeforeCpu s w →
    (w.cpu.next = some s.cyc → w.cpu.ime = true → w.cpu.ie &&& w.cpu.iflag &&& 0x1F#8 ≠ 0#8 →
      step s = .next { serviceInterrupt w with cyc := s.cyc + 1 }) ∧
    (w.cpu.next ≠ some s.cyc → step s = .next { w with cyc := s.cyc + 1 })

/-- Service of source k: k is the lowest ready source; `ime` is cleared, its pending bit and no other is cleared before the push,
`pc` is pushed, control goes to 0x0040 + 8 * k, at a cost of INT_COST cycles, which is 5 by default; no register changes
(`60_exceptions.md` R408, R410 to R412). -/
def Obligations.InterruptService : Prop :=
  ∀ (s a t : State) (k : Nat), k < 5 → t = serviceInterrupt s →
    (s.cpu.ie &&& s.cpu.iflag &&& 0x1F#8).getLsbD k = true →
    (∀ j, j < k → (s.cpu.ie &&& s.cpu.iflag &&& 0x1F#8).getLsbD j = false) →
    a = { s with cpu := { s.cpu with iflag := s.cpu.iflag &&& ~~~(1#8 <<< k), ime := false } } →
    t.cpu.ime = false ∧ t.cpu.sp = s.cpu.sp - 2#16 ∧ StoredWord a t (s.cpu.sp - 2#16) s.cpu.pc ∧
    RegsBut [] s t ∧ Ends s t (BitVec.ofNat 16 (0x0040 + 8 * k)) s.params.intCost ∧
    Config.params.intCost = 5

/-- The wake test: a halted Cpu is scheduled for this cycle exactly when a source is pending and enabled, whatever `ime` holds; a
Cpu that is not halted is left alone (`61_scheduler.md` R456, `48_system.md` R391). -/
def Obligations.WakeTest : Prop :=
  ∀ s : State,
    wake s = { s with cpu := { s.cpu with
      next := if s.cpu.next = none ∧ s.cpu.ie &&& s.cpu.iflag &&& 0x1F#8 ≠ 0#8 then some s.cyc else s.cpu.next } }

/-- `ime` is 0 at reset and changes only by service of an interrupt, DI, EI and RETI (`60_exceptions.md` R423). -/
def Obligations.ImeChanges : Prop :=
  State.reset.cpu.ime = false ∧
  ∀ (s t w : State), step s = .next t → BeforeCpu s w → t.cpu.ime ≠ s.cpu.ime →
    w.cpu.next = some s.cyc ∧
    ((s.cpu.ime = true ∧ w.cpu.ie &&& w.cpu.iflag &&& 0x1F#8 ≠ 0#8 ∧ t.cpu.ime = false) ∨
     ((fetch w).op = .di ∧ t.cpu.ime = false) ∨ ((fetch w).op = .ei ∧ t.cpu.ime = true) ∨
     ((fetch w).op = .reti ∧ t.cpu.ime = true))

/-- A step advances the counter by exactly 1, or it latches a fault and the counter stays; only STOP and an unused byte latch one
(`61_scheduler.md` R452, R462, `60_exceptions.md` R400, R402). -/
def Obligations.CounterOrFault : Prop :=
  ∀ (s t w : State), step s = .next t → BeforeCpu s w →
    (t.fault = none ∧ t.cyc = s.cyc + 1) ∨
    (t.cyc = s.cyc ∧ w.cpu.next = some s.cyc ∧ t = { w with fault := t.fault } ∧
      ((fetch w).op = .stop ∧ t.fault = some .stop ∨ ∃ b, (fetch w).op = .unused b ∧ t.fault = some (.illegal b)))

/-- The machine never refuses, and stops exactly when its latch is set, reporting the latched kind (that it answers a fault is the
model's form, log entry 7). A run of k steps is safe exactly when the host's run over k cycles ends with no fault latched, so the
act that raises a fault ends no safe run, and a stopped machine has none (`60_exceptions.md` R401). -/
def Obligations.StopsExactlyWhenLatched : Prop :=
  ∀ (s : State), (∀ k, step s = .fault k ↔ s.fault = some k) ∧ (∀ r, step s ≠ .refused r) ∧
    (s.fault = none → ∃ t, step s = .next t) ∧
    (∀ n, safeFor n s ↔ ∃ t, runUntil (s.cyc + n) s = .next t ∧ t.fault = none) ∧
    (∀ t, step s = .next t → t.fault ≠ none → ∀ n, 0 < n → ¬safeFor n s) ∧ (s.fault ≠ none → ∀ n, ¬safeFor n s)

/-- Every step keeps the invariant, the parameters, which are fixed before reset (`10_state.md` R41), and the bytes of the
read-only regions, which are fixed (R40). -/
def Obligations.StepKeepsInvariant : Prop :=
  ∀ s t : State, s.Inv → step s = .next t → t.Inv ∧ t.params = s.params ∧ t.platform.rom = s.platform.rom

/-- The invariant holds at reset, with any parameters whose costs are at least 1, any cartridge in canonical form and any reset
values that meet `ResetValues.Ok`, the default ones among them, whatever the byte given for F: its low nibble is cleared
(`10_state.md` R24). -/
def Obligations.ResetInvariant : Prop :=
  State.reset.Inv ∧ ResetValues.default.Ok ∧
    ∀ (p : Params) (r : ResetValues) (cart : Cartridge), p.ok = true → r.Ok → cart.wf = true →
      (State.resetWith p r cart).Inv ∧ (State.resetWith p r cart).reg .f = r.cpu.regs.f &&& 0xF0#8

/-- Every host action keeps the invariant, the parameters and the read-only regions (`61_scheduler.md` R463, `10_state.md` R40,
R41). -/
def Obligations.HostKeepsInvariant : Prop :=
  ∀ (s t : State) (a : HostAction), s.Inv → hostAct a s = .next t →
    t.Inv ∧ t.params = s.params ∧ t.platform.rom = s.platform.rom

/-- Reset leaves what R60 to R68 and R631 say, with any parameters and any cartridge; the parameters of `State.reset` are the
defaults of R7, R91, R412 and R510. The contents of `State.reset`'s cartridge are the model's choice (log entry 4) and are
not stated. -/
def Obligations.ResetValues : Prop :=
  (∀ (p : Params) (cart : Cartridge) (s : State), s = State.resetWith p ResetValues.default cart →
    (∀ r, s.reg r = 0#8) ∧ s.flags = { z := false, n := false, h := false, c := false } ∧
    s.cpu.pc = 0#16 ∧ s.cpu.sp = 0#16 ∧ s.cpu.ime = false ∧ s.cpu.ie = 0#8 ∧ s.cpu.iflag = 0#8 ∧ s.cpu.next = some 0 ∧
    s.timer = { counter := 0#16, tima := 0#8, tma := 0#8, tac := 0#8 } ∧
    (∀ r : LcdReg, s.lcd.readReg r = 0#8) ∧ (∀ k, s.lcd.vram.load k = 0#8) ∧ (∀ k, s.lcd.oam.load k = 0#8) ∧
    s.lcd.next = none ∧ s.lcd.winY = 0 ∧ s.lcd.lines = [] ∧ s.lcd.dmaIndex = 160 ∧
    s.lcd.image = { lines := List.replicate 144 { msb := 0#160, lsb := 0#160, opacity := 0#160 } } ∧
    s.joypad = { line0 := 0#4, line1 := 0#4, sel := 0#2 } ∧ s.joypad.read 0xFF00#16 = some 0xFF#8 ∧
    s.cyc = 0 ∧ s.fault = none ∧ (∀ k, s.platform.workRam.load k = 0#8) ∧ (∀ k, s.platform.highRam.load k = 0#8) ∧
    (∀ k, s.platform.ram.load k = 0#8) ∧ s.platform.cart = cart ∧ s.params = p) ∧
  (∃ cart, State.reset = State.resetWith Config.params ResetValues.default cart) ∧
  Config.params.platform = [.workRam, .echo, .cpu, .highRam, .timer, .lcd, .joypad, .cartridge] ∧ Config.params.intCost = 5 ∧
  Config.params.mode2Cycles = 20 ∧ Config.params.mode3Cycles = 43 ∧ Config.params.mode0Cycles = 51 ∧
  Config.params.vblankLineCycles = 114 ∧ ∀ o : Op, State.reset.descriptor o = o.descriptor

/-- A run to N below the counter is refused; else it is steps while the counter is below N and no fault is latched, and ends at the
counter N or with a fault (`61_scheduler.md` R451). -/
def Obligations.RunUntilReaches : Prop :=
  ∀ (s : State) (n : Nat),
    (n < s.cyc → runUntil n s = .refused .runUntilPast) ∧ runUntil s.cyc s = .next s ∧
    (s.fault ≠ none → s.cyc ≤ n → runUntil n s = .next s) ∧
    (∀ t, s.cyc < n → step s = .next t → runUntil n s = runUntil n t) ∧
    (s.cyc ≤ n → ∃ t, runUntil n s = .next t ∧ (t.fault = none → t.cyc = n) ∧ (s.fault = none → t.fault ≠ none → t.cyc < n))

/-- Two runs one after the other are one run (`61_scheduler.md` R461). -/
def Obligations.RunsCompose : Prop :=
  ∀ (s t : State) (a b : Nat), s.cyc ≤ a → a ≤ b → runUntil a s = .next t → runUntil b t = runUntil b s

/-! ## Devices -/

/-- The Timer's step: the main counter moves by 4; TIMA counts exactly the falling edges of the enabled, selected bit, reloads
from TMA on overflow and then requests TIMER (`62_timer.md` R473 to R477). -/
def Obligations.TimerStep : Prop :=
  ∀ (s t : State) (b : Nat) (falls : Bool), t = timerStep s →
    b = (if s.timer.tac &&& 3#8 = 0#8 then 9 else if s.timer.tac &&& 3#8 = 1#8 then 3 else if s.timer.tac &&& 3#8 = 2#8 then 5 else 7) →
    falls = (s.timer.tac.getLsbD 2 && s.timer.counter.getLsbD b && !(s.timer.counter + 4#16).getLsbD b) →
    t.timer = { s.timer with
      counter := s.timer.counter + 4#16
      tima := if falls then (if s.timer.tima = 0xFF#8 then s.timer.tma else s.timer.tima + 1#8) else s.timer.tima } ∧
    t = { s with timer := t.timer, cpu := { s.cpu with
      iflag := if falls && s.timer.tima == 0xFF#8 then s.cpu.iflag ||| 0x04#8 else s.cpu.iflag } }

/-- With the timer on, TIMA counts exactly once in every period of its selected bit, wherever the counter stands: 256, 4, 16, 64
cycles for TAC[1:0] = 0, 1, 2, 3 (`62_timer.md` R477). -/
def Obligations.TimerPeriod : Prop :=
  ∀ (s : State) (p : Nat), s.timer.tac.getLsbD 2 = true → s.timer.tima ≠ 0xFF#8 →
    p = (if s.timer.tac &&& 3#8 = 0#8 then 256 else if s.timer.tac &&& 3#8 = 1#8 then 4 else if s.timer.tac &&& 3#8 = 2#8 then 16 else 64) →
    (Nat.repeat timerStep p s).timer.tima = s.timer.tima + 1#8 ∧ (Nat.repeat timerStep p s).cpu.iflag = s.cpu.iflag

/-- A bus write to DIV clears the whole counter, one to TAC stores all 8 bits, and either counts TIMA once if it makes the
signal fall, with the reload and the request of an overflow; a write to TIMA or TMA only stores (`62_timer.md` R478 to R480). A bus
read of DIV gives the high byte of the main counter, one of TIMA, TMA, TAC the register as stored (R471). On any platform where the
Timer alone claims its registers, as on the default one. At every other address the Timer answers nothing and takes no write (R471,
R472). -/
def Obligations.TimerWrites : Prop :=
  ∀ (s : State) (v : Byte) (counted : Byte) (requested : Byte) (falls : Bool),
    counted = (if s.timer.tima = 0xFF#8 then s.timer.tma else s.timer.tima + 1#8) →
    requested = (if s.timer.tima = 0xFF#8 then s.cpu.iflag ||| 0x04#8 else s.cpu.iflag) →
    falls = (s.timer.signal && !(v.getLsbD 2 && s.timer.counter.getLsbD (selBit v))) →
    ((∀ r : TimerReg, s.claimants r.addr = [.timer]) →
      busWrite s 0xFF04#16 v = { s with
        timer := { s.timer with counter := 0#16, tima := if s.timer.signal then counted else s.timer.tima }
        cpu := { s.cpu with iflag := if s.timer.signal then requested else s.cpu.iflag } } ∧
      busWrite s 0xFF07#16 v = { s with
        timer := { s.timer with tac := v, tima := if falls then counted else s.timer.tima }
        cpu := { s.cpu with iflag := if falls then requested else s.cpu.iflag } } ∧
      busWrite s 0xFF05#16 v = { s with timer := { s.timer with tima := v } } ∧
      busWrite s 0xFF06#16 v = { s with timer := { s.timer with tma := v } } ∧
      busRead s 0xFF04#16 = (s.timer.counter >>> 8).setWidth 8 ∧ busRead s 0xFF05#16 = s.timer.tima ∧
      busRead s 0xFF06#16 = s.timer.tma ∧ busRead s 0xFF07#16 = s.timer.tac) ∧
    ∀ a : Addr, a.toNat < 0xFF04 ∨ 0xFF07 < a.toNat →
      participantRead .timer s a = none ∧ participantWrite .timer s a v = s

/-- A DMA transfer copies one byte a cycle, read through the bus, until byte 159 is copied; the display and the Cpu play no part
(`63_lcd_controller.md` R540). -/
def Obligations.DmaStep : Prop :=
  ∀ (s : State),
    (s.lcd.dmaIndex < 160 → ∀ a, a = BitVec.ofNat 16 (256 * s.lcd.dma.toNat + s.lcd.dmaIndex) →
      s.memoryWf = true →
      (∀ k, (dmaStep s).lcd.oam.load k = if k = s.lcd.dmaIndex then busRead s a else s.lcd.oam.load k) ∧
      (dmaStep s) = { s with lcd := { s.lcd with oam := (dmaStep s).lcd.oam, dmaIndex := s.lcd.dmaIndex + 1 } }) ∧
    (160 ≤ s.lcd.dmaIndex → dmaStep s = s)

/-- The scanline machine's action in each mode: the next mode, the line register, the cycles to the next action, and the
interrupts requested: VBLANK on entering mode 1, LCD_STAT on entering modes 0, 1, 2 if STAT[3], STAT[4], STAT[5] is set, and
LCD_STAT where LY changes to LYC and STAT[6] is set. Entering mode 3 draws line LY, which is appended to the lines drawn;
entering mode 1 publishes the lines; nothing else changes (`63_lcd_controller.md` R510, R513 to R515, R517). The enable: no line
drawn, the window line counter 0, an entry into mode 2 with its request, the next action after the budget of mode 2, and nothing
else; LY and LYC are not compared (R512). -/
def Obligations.ScanlineAction : Prop :=
  ∀ (s t : State) (line : LcdLine 160 × Nat) (stat : Nat → Byte) (lyc : Byte → Byte), t = lcdAct s →
    line = s.lcd.computeLine s.lcd.ly.toNat →
    (∀ b, stat b = if s.lcd.stat.getLsbD b = true then 2#8 else 0#8) →
    (∀ v, lyc v = if v = s.lcd.lyc ∧ s.lcd.stat.getLsbD 6 = true then 2#8 else 0#8) →
    (s.lcd.mode = .m2 → t.lcd.mode = .m3 ∧ t.lcd.ly = s.lcd.ly ∧ t.lcd.next = some (s.cyc + s.params.mode3Cycles) ∧
      t.lcd.lines = s.lcd.lines ++ [line.1] ∧ t.lcd.winY = line.2 ∧ t.lcd.image = s.lcd.image ∧
      t.cpu.iflag = s.cpu.iflag) ∧
    (s.lcd.mode = .m3 → t.lcd.mode = .m0 ∧ t.lcd.ly = s.lcd.ly ∧ t.lcd.next = some (s.cyc + s.params.mode0Cycles) ∧
      t.lcd.lines = s.lcd.lines ∧ t.lcd.winY = s.lcd.winY ∧ t.lcd.image = s.lcd.image ∧
      t.cpu.iflag = s.cpu.iflag ||| stat 3) ∧
    (s.lcd.mode = .m0 → t.lcd.ly = s.lcd.ly + 1#8 ∧ t.lcd.lines = s.lcd.lines ∧ t.lcd.winY = s.lcd.winY ∧
      (s.lcd.ly = 143#8 → t.lcd.mode = .m1 ∧ t.lcd.next = some (s.cyc + s.params.vblankLineCycles) ∧
        t.lcd.image = { lines := s.lcd.lines } ∧ t.cpu.iflag = s.cpu.iflag ||| lyc 144#8 ||| 1#8 ||| stat 4) ∧
      (s.lcd.ly ≠ 143#8 → t.lcd.mode = .m2 ∧ t.lcd.next = some (s.cyc + s.params.mode2Cycles) ∧
        t.lcd.image = s.lcd.image ∧ t.cpu.iflag = s.cpu.iflag ||| lyc (s.lcd.ly + 1#8) ||| stat 5)) ∧
    (s.lcd.mode = .m1 → t.lcd.image = s.lcd.image ∧
      (s.lcd.ly = 153#8 → t.lcd.mode = .m2 ∧ t.lcd.ly = 0#8 ∧ t.lcd.next = some (s.cyc + s.params.mode2Cycles) ∧
        t.lcd.lines = [] ∧ t.lcd.winY = 0 ∧ t.cpu.iflag = s.cpu.iflag ||| lyc 0#8 ||| stat 5) ∧
      (s.lcd.ly ≠ 153#8 → t.lcd.mode = .m1 ∧ t.lcd.ly = s.lcd.ly + 1#8 ∧
        t.lcd.next = some (s.cyc + s.params.vblankLineCycles) ∧ t.lcd.lines = s.lcd.lines ∧ t.lcd.winY = s.lcd.winY ∧
        t.cpu.iflag = s.cpu.iflag ||| lyc (s.lcd.ly + 1#8))) ∧
    (t.lcd.stat &&& 0xF8#8 = s.lcd.stat &&& 0xF8#8 ∧
      t.lcd.stat.getLsbD 2 = (if s.lcd.mode = .m2 ∨ s.lcd.mode = .m3 then s.lcd.stat.getLsbD 2 else decide (t.lcd.ly = s.lcd.lyc)) ∧
      t = { s with
        lcd := { s.lcd with
          stat := t.lcd.stat, ly := t.lcd.ly, next := t.lcd.next, lines := t.lcd.lines, winY := t.lcd.winY
          image := t.lcd.image }
        cpu := { s.cpu with iflag := t.cpu.iflag } }) ∧
    lcdEnable s = { s with
      lcd := { s.lcd with
        lines := [], winY := 0, stat := (s.lcd.stat &&& 0xFC#8) ||| 0x02#8, next := some (s.cyc + s.params.mode2Cycles) }
      cpu := { s.cpu with iflag := s.cpu.iflag ||| stat 5 } }

/-- What the scanline machine requests: entering a mode sets the mode bits, requests VBLANK for mode 1, and LCD_STAT for modes 0,
1, 2 if the mode's enable bit is set; a change of LY sets STAT[2] to LY = LYC, and requests LCD_STAT if equal and enabled
(`63_lcd_controller.md` R514, R515). -/
def Obligations.ScanlineRequests : Prop :=
  ∀ (s : State) (m : Mode) (v : Byte),
    ((enterMode m s).lcd.mode = m ∧ (enterMode m s).lcd.stat &&& 0xFC#8 = s.lcd.stat &&& 0xFC#8 ∧
      (enterMode m s).cpu.iflag = s.cpu.iflag ||| (if m = .m1 then 1#8 else 0#8) |||
        (if (m = .m0 ∧ s.lcd.stat.getLsbD 3 = true) ∨ (m = .m1 ∧ s.lcd.stat.getLsbD 4 = true) ∨
            (m = .m2 ∧ s.lcd.stat.getLsbD 5 = true) then 2#8 else 0#8)) ∧
    ((setLy v s).lcd.ly = v ∧ (setLy v s).lcd.stat.getLsbD 2 = decide (v = s.lcd.lyc) ∧
      (setLy v s).lcd.stat &&& 0xFB#8 = s.lcd.stat &&& 0xFB#8 ∧
      (setLy v s).cpu.iflag = s.cpu.iflag ||| (if v = s.lcd.lyc ∧ s.lcd.stat.getLsbD 6 = true then 2#8 else 0#8))

/-- A bus write to an LCD register: LCDC stores and, clearing bit 7, disables the display; STAT stores bits 7:3; LY ignores; LYC
stores and compares; DMA stores and starts a transfer; the seven others store and do nothing else (`63_lcd_controller.md` R496 to
R501, R516). A bus read of any of the twelve gives it as stored, all 8 bits. On any platform where the controller alone claims its
registers, as on the default one. The controller answers `vram` and `oam` at their addresses, and nothing outside its three ranges
(R494). -/
def Obligations.LcdRegisterWrites : Prop :=
  ∀ (s : State) (v : Byte) (off : Bool), off = (s.lcd.lcdc.getLsbD 7 && !v.getLsbD 7) →
    ((∀ r : LcdReg, s.claimants r.addr = [.lcd]) →
      (off = false → busWrite s 0xFF40#16 v = { s with lcd := { s.lcd with lcdc := v } }) ∧
      (off = true → busWrite s 0xFF40#16 v = { s with
        lcd := { s.lcd with
          lcdc := v, ly := 0#8, next := none, lines := []
          stat := (s.lcd.stat &&& 0xF8#8) ||| (if s.lcd.lyc = 0#8 then 0x04#8 else 0#8) }
        cpu := { s.cpu with
          iflag := if s.lcd.lyc = 0#8 ∧ s.lcd.stat.getLsbD 6 = true then s.cpu.iflag ||| 0x02#8 else s.cpu.iflag } }) ∧
      busWrite s 0xFF41#16 v = { s with lcd := { s.lcd with stat := (v &&& 0xF8#8) ||| (s.lcd.stat &&& 0x07#8) } } ∧
      busWrite s 0xFF42#16 v = { s with lcd := { s.lcd with scy := v } } ∧
      busWrite s 0xFF43#16 v = { s with lcd := { s.lcd with scx := v } } ∧
      busWrite s 0xFF44#16 v = s ∧
      busWrite s 0xFF45#16 v = { s with
        lcd := { s.lcd with lyc := v, stat := (s.lcd.stat &&& 0xFB#8) ||| (if s.lcd.ly = v then 0x04#8 else 0#8) }
        cpu := { s.cpu with
          iflag := if s.lcd.ly = v ∧ s.lcd.stat.getLsbD 6 = true then s.cpu.iflag ||| 0x02#8 else s.cpu.iflag } } ∧
      busWrite s 0xFF46#16 v = { s with lcd := { s.lcd with dma := v, dmaIndex := 0 } } ∧
      busWrite s 0xFF47#16 v = { s with lcd := { s.lcd with bgp := v } } ∧
      busWrite s 0xFF48#16 v = { s with lcd := { s.lcd with obp0 := v } } ∧
      busWrite s 0xFF49#16 v = { s with lcd := { s.lcd with obp1 := v } } ∧
      busWrite s 0xFF4A#16 v = { s with lcd := { s.lcd with wy := v } } ∧
      busWrite s 0xFF4B#16 v = { s with lcd := { s.lcd with wx := v } } ∧
      busRead s 0xFF40#16 = s.lcd.lcdc ∧ busRead s 0xFF41#16 = s.lcd.stat ∧ busRead s 0xFF42#16 = s.lcd.scy ∧
      busRead s 0xFF43#16 = s.lcd.scx ∧ busRead s 0xFF44#16 = s.lcd.ly ∧ busRead s 0xFF45#16 = s.lcd.lyc ∧
      busRead s 0xFF46#16 = s.lcd.dma ∧ busRead s 0xFF47#16 = s.lcd.bgp ∧ busRead s 0xFF48#16 = s.lcd.obp0 ∧
      busRead s 0xFF49#16 = s.lcd.obp1 ∧ busRead s 0xFF4A#16 = s.lcd.wy ∧ busRead s 0xFF4B#16 = s.lcd.wx) ∧
    ∀ a : Addr,
      (0x8000 ≤ a.toNat → a.toNat ≤ 0x9FFF → participantRead .lcd s a = some (s.lcd.vram.load (a.toNat - 0x8000))) ∧
      (0xFE00 ≤ a.toNat → a.toNat ≤ 0xFE9F → participantRead .lcd s a = some (s.lcd.oam.load (a.toNat - 0xFE00))) ∧
      (a.toNat < 0x8000 ∨ (0x9FFF < a.toNat ∧ a.toNat < 0xFE00) ∨ (0xFE9F < a.toNat ∧ a.toNat < 0xFF40) ∨ 0xFF4B < a.toNat →
        participantRead .lcd s a = none)

/-- The joypad: a write stores the select bits, inverted, and does nothing else; a read is the complement of the exposed lines; a
press sets the key's bit and requests JOYPAD exactly when it turns a visible bit on; a release clears the bit and requests nothing
(`65_joypad.md` R611 to R615). The reads and writes are on any platform where the Joypad alone claims its register, as on the
default one. -/
def Obligations.JoypadEvents : Prop :=
  ∀ (s : State) (v : Byte) (k : Key) (low : State → Fin 4 → Bool) (line0 line1 : List Key),
    line0 = [.right, .left, .up, .down] → line1 = [.a, .b, .select, .start] →
    (∀ t b, low t b =
      (t.joypad.sel.getLsbD 0 && t.joypad.line0.getLsbD b.val || t.joypad.sel.getLsbD 1 && t.joypad.line1.getLsbD b.val)) →
    (s.claimants 0xFF00#16 = [.joypad] →
      (∃ sel : BitVec 2, busWrite s 0xFF00#16 v = { s with joypad := { s.joypad with sel := sel } } ∧
        sel.getLsbD 0 = !v.getLsbD 4 ∧ sel.getLsbD 1 = !v.getLsbD 5) ∧
      (∀ b : Fin 4, (busRead s 0xFF00#16).getLsbD b.val = !low s b) ∧
      (busRead s 0xFF00#16).getLsbD 4 = !s.joypad.sel.getLsbD 0 ∧ (busRead s 0xFF00#16).getLsbD 5 = !s.joypad.sel.getLsbD 1 ∧
      (busRead s 0xFF00#16).getLsbD 6 = true ∧ (busRead s 0xFF00#16).getLsbD 7 = true) ∧
    (∃ t, t = keyPressed k s ∧ t = { s with joypad := t.joypad, cpu := { s.cpu with iflag := t.cpu.iflag } } ∧
      t.joypad.sel = s.joypad.sel ∧
      (∀ b : Fin 4, t.joypad.line0.getLsbD b.val = (s.joypad.line0.getLsbD b.val || decide (line0[b.val]? = some k)) ∧
        t.joypad.line1.getLsbD b.val = (s.joypad.line1.getLsbD b.val || decide (line1[b.val]? = some k))) ∧
      t.cpu.iflag = s.cpu.iflag ||| (if ∃ b : Fin 4, low t b = true ∧ low s b = false then 0x10#8 else 0#8)) ∧
    (∃ t, t = keyReleased k s ∧ t = { s with joypad := t.joypad } ∧ t.joypad.sel = s.joypad.sel ∧
      (∀ b : Fin 4, t.joypad.line0.getLsbD b.val = (s.joypad.line0.getLsbD b.val && !decide (line0[b.val]? = some k)) ∧
        t.joypad.line1.getLsbD b.val = (s.joypad.line1.getLsbD b.val && !decide (line1[b.val]? = some k))))

/-- The bus. On any platform: the first answer in attachment order wins a read, no answer reads 0xFF, and a write reaches every
participant that claims the address, in attachment order, and no other; a read-only region answers the fixed byte of each address of
its range and nothing outside, and no write changes what it answers (`10_state.md` R40); the key under which that byte is kept,
65536 * k and the offset in the range, by which regions of one number share their bytes, is the model's choice (log entry 1). On the
default platform: a plain byte reads as last written, a byte that a write does not reach reads as before, work RAM has its echo, and
an address nobody claims reads 0xFF (`20_memory.md` R82, R83, R90, R91, R101). -/
def Obligations.BusReadsAfterWrites : Prop :=
  ∀ (s : State) (a b : Addr) (v : Byte),
    (∀ before p after x, s.params.platform = before ++ p :: after → (∀ q ∈ before, participantRead q s a = none) →
      participantRead p s a = some x → busRead s a = x) ∧
    ((∀ p ∈ s.params.platform, participantRead p s a = none) → busRead s a = 0xFF#8) ∧
    busWrite s a v = (s.claimants a).foldl (fun t p => participantWrite p t a v) s ∧
    (∀ k lo hi, participantRead (.rom k lo hi) (busWrite s a v) b = participantRead (.rom k lo hi) s b ∧
      (lo.toNat ≤ b.toNat → b.toNat ≤ hi.toNat →
        participantRead (.rom k lo hi) s b = some (s.platform.rom.load (65536 * k.toNat + (b.toNat - lo.toNat)))) ∧
      (¬(lo.toNat ≤ b.toNat ∧ b.toNat ≤ hi.toNat) → participantRead (.rom k lo hi) s b = none)) ∧
    (DefaultPlatform s →
      (s.memoryWf = true → plainStorage a = true → busRead (busWrite s a v) a = v) ∧
      (writeReaches s a b = false → busRead (busWrite s a v) b = busRead s b) ∧
      (inEcho b = true → busRead s b = busRead s (b - 0x2000#16)) ∧
      ((0xFEA0 ≤ a.toNat ∧ a.toNat ≤ 0xFEFF) ∨ (0xFF01 ≤ a.toNat ∧ a.toNat ≤ 0xFF03) ∨
        (0xFF08 ≤ a.toNat ∧ a.toNat ≤ 0xFF0E) ∨ (0xFF10 ≤ a.toNat ∧ a.toNat ≤ 0xFF3F) ∨
        (0xFF4C ≤ a.toNat ∧ a.toNat ≤ 0xFF7F) → busRead s a = 0xFF#8 ∧ busWrite s a v = s))

/-! ## Pure functions -/

/-- The rotation of a word within its size, undone by the opposite distance; the failure is a bit outside the size
(`40_bitops_alu.md` R176). -/
def Obligations.RotateInverse : Prop :=
  ∀ (size : Nat) (bits : Word32) (d : Int), 1 ≤ size → size ≤ 32 →
    (bits.toNat < 2 ^ size → ∃ r, BitOps.rotate size bits d = some r ∧ r.toNat < 2 ^ size ∧ BitOps.rotate size r (-d) = some bits) ∧
    (2 ^ size ≤ bits.toNat → BitOps.rotate size bits d = none)

/-- The laws of the image lines: a line under another shows the upper one's colour where that is opaque, else the lower one's, and
is opaque where either is; so two compositions show C where C is opaque, else B where B is opaque, else A, are opaque where any
of the three is, and are one line however they are grouped; the identity palette changes nothing, wrapping repeats after the
length, and two shifts the same way are one (`64_lcd_image.md` R586, R587, R592). -/
def Obligations.ImageLaws : Prop :=
  ∀ (w : Nat) (a b c : LcdLine w) (k : Int) (size x : Nat) (d e : Int), 0 < w →
    (∀ (op : BitVec w) (i : Nat), i < w →
      (a.belowWith b op).colour i = (if op.getLsbD i then b.colour i else a.colour i) ∧
      (a.belowWith b op).opaqueAt i = (a.opaqueAt i || op.getLsbD i)) ∧
    (∀ i, i < w → (a.below b).colour i = (if b.opaqueAt i then b.colour i else a.colour i) ∧
      (a.below b).opaqueAt i = (a.opaqueAt i || b.opaqueAt i)) ∧
    (∀ i, i < w → ∀ l ∈ [(a.below b).below c, a.below (b.below c)],
      l.colour i = (if c.opaqueAt i then c.colour i else if b.opaqueAt i then b.colour i else a.colour i) ∧
      l.opaqueAt i = (a.opaqueAt i || b.opaqueAt i || c.opaqueAt i)) ∧
    (a.below b).below c = a.below (b.below c) ∧ a.mapColors 0xE4#8 = a ∧
    a.extractWrapped k size = a.extractWrapped (k + w) size ∧
    (x < size → ((a.extractWrapped k size).colour x = a.colour ((k + x) % w).toNat)) ∧
    ((0 ≤ d ∧ 0 ≤ e) ∨ (d ≤ 0 ∧ e ≤ 0) → (a.shift d).shift e = a.shift (d + e))

/-- What shows in each column of a composed line: the front sprite, else the background or window if it is not colour 0, else
the sprite behind, else the background (`63_lcd_controller.md` R529). And how a line is assembled: without LCDC[1] it is the
background under the window; with it, that line composed with the layers of the selected sprites, those whose attribute bit 7 is 1
behind and those whose bit is 0 in front; with neither LCDC[0], LCDC[1] nor the window it is empty (R520, R530). -/
def Obligations.CompositePixels : Prop :=
  (∀ (bgwin behind front : LcdLine 160) (x : Nat), x < 160 →
    (composite bgwin behind front).colour x =
      if front.opaqueAt x then front.colour x
      else if bgwin.opaqueAt x then bgwin.colour x
      else if behind.opaqueAt x then behind.colour x
      else bgwin.colour x) ∧
  ∀ (l : Lcd) (y : Nat) (bgwin : LcdLine 160 × Nat) (sprites : List Nat),
    bgwin = l.windowOver (l.backgroundLine y) y → sprites = l.selectSprites y →
    (l.lcdc.getLsbD 1 = false → l.computeLine y = bgwin) ∧
    (l.lcdc.getLsbD 1 = true →
      l.computeLine y =
        (composite bgwin.1 (l.spriteLayer sprites y true) (l.spriteLayer sprites y false), bgwin.2)) ∧
    (l.lcdc.getLsbD 0 = false → l.lcdc.getLsbD 1 = false →
      l.lcdc.getLsbD 5 = false ∨ y < l.wy.toNat ∨ l.wx.toNat < 7 ∨ 167 ≤ l.wx.toNat →
      ∀ x, (l.computeLine y).1.colour x = 0 ∧ (l.computeLine y).1.opaqueAt x = false)

/-- A background pixel: column x of line y shows the palette's entry for the raw colour of background pixel
((x + SCX) mod 256, (y + SCY) mod 256), from the tile that the map names there; with LCDC[0] = 0 the line is empty
(`63_lcd_controller.md` R521 to R523). -/
def Obligations.BackgroundPixels : Prop :=
  ∀ (l : Lcd) (x y bx row : Nat) (idx : Byte) (a raw : Nat), x < 160 →
    bx = (x + l.scx.toNat) % 256 → row = (y + l.scy.toNat) % 256 →
    idx = l.vramAt ((if l.lcdc.getLsbD 3 then 0x9C00 else 0x9800) + 32 * (row / 8) + bx / 8) →
    a = (if l.lcdc.getLsbD 4 then 0x8000 + 16 * idx.toNat else (0x9000 + 16 * idx.toInt).toNat) + 2 * (row % 8) →
    raw = 2 * ((l.vramAt (a + 1)).getLsbD (7 - bx % 8)).toNat + ((l.vramAt a).getLsbD (7 - bx % 8)).toNat →
    (l.lcdc.getLsbD 0 = true →
      (l.backgroundLine y).colour x = (l.bgp.toNat >>> (2 * raw)) % 4 ∧ (l.backgroundLine y).opaqueAt x = decide (raw ≠ 0)) ∧
    (l.lcdc.getLsbD 0 = false → (l.backgroundLine y).colour x = 0 ∧ (l.backgroundLine y).opaqueAt x = false)

/-- The window: where it is not drawn the line and the window line counter stay; else the columns left of WX - 7 are the
background's, the others show window pixel (x - (WX - 7), window line counter), and the counter is one higher
(`63_lcd_controller.md` R524). -/
def Obligations.WindowPixels : Prop :=
  ∀ (l : Lcd) (bg : LcdLine 160) (x y bx : Nat) (idx : Byte) (a raw : Nat) (active : Bool), x < 160 →
    active = (l.lcdc.getLsbD 5 && decide (l.wy.toNat ≤ y) && decide (7 ≤ l.wx.toNat) && decide (l.wx.toNat - 7 < 160)) →
    bx = x - (l.wx.toNat - 7) →
    idx = l.vramAt ((if l.lcdc.getLsbD 6 then 0x9C00 else 0x9800) + 32 * (l.winY / 8) + bx / 8) →
    a = (if l.lcdc.getLsbD 4 then 0x8000 + 16 * idx.toNat else (0x9000 + 16 * idx.toInt).toNat) + 2 * (l.winY % 8) →
    raw = 2 * ((l.vramAt (a + 1)).getLsbD (7 - bx % 8)).toNat + ((l.vramAt a).getLsbD (7 - bx % 8)).toNat →
    (active = false → l.windowOver bg y = (bg, l.winY)) ∧
    (active = true → (l.windowOver bg y).2 = l.winY + 1 ∧
      (x < l.wx.toNat - 7 →
        (l.windowOver bg y).1.colour x = bg.colour x ∧ (l.windowOver bg y).1.opaqueAt x = bg.opaqueAt x) ∧
      (l.wx.toNat - 7 ≤ x → (l.windowOver bg y).1.colour x = (l.bgp.toNat >>> (2 * raw)) % 4 ∧
        (l.windowOver bg y).1.opaqueAt x = decide (raw ≠ 0)))

/-- The sprites of a line: the first ten of the 40 entries that intersect it, in ascending order of X and, at equal X, of the index
(`63_lcd_controller.md` R525, R526). The line of one that intersects it: the eight pixels from column X - 8 on, of the row that the
vertical flip gives, in the tile and, at height 16, the tile pair that the index names, bit 7 left or with the horizontal flip bit 0
left, through the palette of attribute bit 4; every other column, and raw colour 0, is transparent (R527). A layer: the sprites with
its attribute bit 7, each under those before it, so that in each column the first opaque one shows (R528). -/
def Obligations.SpriteSelection : Prop :=
  ∀ (l : Lcd) (y h : Nat) (on : Nat → Bool) (key : Nat → Nat) (sprites : List Nat),
    h = (if l.lcdc.getLsbD 2 then 16 else 8) →
    (∀ i, on i = (decide ((l.oamAt (4 * i)).toNat ≤ y + 16) && decide (y + 16 < (l.oamAt (4 * i)).toNat + h))) →
    (∀ i, key i = 256 * (l.oamAt (4 * i + 1)).toNat + i) →
    sprites = l.selectSprites y →
    (sprites.length ≤ 10 ∧ sprites.Pairwise (fun i j => key i < key j) ∧
      ∀ i, i ∈ sprites ↔ i < 40 ∧ on i = true ∧ ((List.range i).filter on).length < 10) ∧
    (∀ (i x left row tile a bit raw : Nat) (attr palette : Byte), on i = true → x < 160 →
      attr = l.oamAt (4 * i + 3) → left = (l.oamAt (4 * i + 1)).toNat →
      row = (if attr.getLsbD 6 then h - 1 - (y + 16 - (l.oamAt (4 * i)).toNat) else y + 16 - (l.oamAt (4 * i)).toNat) →
      tile = (if h = 16 then (l.oamAt (4 * i + 2)).toNat / 2 * 2 else (l.oamAt (4 * i + 2)).toNat) →
      a = 0x8000 + 16 * tile + 2 * row →
      bit = (if attr.getLsbD 5 then x + 8 - left else 7 - (x + 8 - left)) →
      raw = (if left ≤ x + 8 ∧ x < left then
        2 * ((l.vramAt (a + 1)).getLsbD bit).toNat + ((l.vramAt a).getLsbD bit).toNat else 0) →
      palette = (if attr.getLsbD 4 then l.obp1 else l.obp0) →
      (l.spriteLine i y).colour x = (palette.toNat >>> (2 * raw)) % 4 ∧ (l.spriteLine i y).opaqueAt x = decide (raw ≠ 0)) ∧
    ∀ (s : List Nat) (i : Nat) (p : Bool),
      l.spriteLayer [] y p = LcdLine.empty 160 ∧
      l.spriteLayer (s ++ [i]) y p =
        (if (l.oamAt (4 * i + 3)).getLsbD 7 = p then (l.spriteLine i y).below (l.spriteLayer s y p)
          else l.spriteLayer s y p) ∧
      ∀ x, x < 160 →
        match s.find? (fun j => (l.oamAt (4 * j + 3)).getLsbD 7 == p && (l.spriteLine j y).opaqueAt x) with
        | some j => (l.spriteLayer s y p).opaqueAt x = true ∧ (l.spriteLayer s y p).colour x = (l.spriteLine j y).colour x
        | none => (l.spriteLayer s y p).opaqueAt x = false
end

