-- ==== Sys2Proof/Laws/State.lean ====
section
/-! SUPPORT. One lemma per field per update of the state, and the algebra of the register file. -/

namespace Sys2Proof.Machine

/-! `setReg` -/

@[simp] theorem setReg_params (s : State) (r : Reg) (v : Byte) : (s.setReg r v).params = s.params := rfl
@[simp] theorem setReg_cyc (s : State) (r : Reg) (v : Byte) : (s.setReg r v).cyc = s.cyc := rfl
@[simp] theorem setReg_fault (s : State) (r : Reg) (v : Byte) : (s.setReg r v).fault = s.fault := rfl
@[simp] theorem setReg_timer (s : State) (r : Reg) (v : Byte) : (s.setReg r v).timer = s.timer := rfl
@[simp] theorem setReg_lcd (s : State) (r : Reg) (v : Byte) : (s.setReg r v).lcd = s.lcd := rfl
@[simp] theorem setReg_joypad (s : State) (r : Reg) (v : Byte) : (s.setReg r v).joypad = s.joypad := rfl
@[simp] theorem setReg_platform (s : State) (r : Reg) (v : Byte) : (s.setReg r v).platform = s.platform := rfl
@[simp] theorem setReg_regs (s : State) (r : Reg) (v : Byte) : (s.setReg r v).cpu.regs = s.cpu.regs.set r v := rfl
@[simp] theorem setReg_pc (s : State) (r : Reg) (v : Byte) : (s.setReg r v).cpu.pc = s.cpu.pc := rfl
@[simp] theorem setReg_sp (s : State) (r : Reg) (v : Byte) : (s.setReg r v).cpu.sp = s.cpu.sp := rfl
@[simp] theorem setReg_ime (s : State) (r : Reg) (v : Byte) : (s.setReg r v).cpu.ime = s.cpu.ime := rfl
@[simp] theorem setReg_ie (s : State) (r : Reg) (v : Byte) : (s.setReg r v).cpu.ie = s.cpu.ie := rfl
@[simp] theorem setReg_iflag (s : State) (r : Reg) (v : Byte) : (s.setReg r v).cpu.iflag = s.cpu.iflag := rfl
@[simp] theorem setReg_next (s : State) (r : Reg) (v : Byte) : (s.setReg r v).cpu.next = s.cpu.next := rfl

/-! `setR8` -/

@[simp] theorem setR8_params (s : State) (r : R8) (v : Byte) : (s.setR8 r v).params = s.params := rfl
@[simp] theorem setR8_cyc (s : State) (r : R8) (v : Byte) : (s.setR8 r v).cyc = s.cyc := rfl
@[simp] theorem setR8_fault (s : State) (r : R8) (v : Byte) : (s.setR8 r v).fault = s.fault := rfl
@[simp] theorem setR8_timer (s : State) (r : R8) (v : Byte) : (s.setR8 r v).timer = s.timer := rfl
@[simp] theorem setR8_lcd (s : State) (r : R8) (v : Byte) : (s.setR8 r v).lcd = s.lcd := rfl
@[simp] theorem setR8_joypad (s : State) (r : R8) (v : Byte) : (s.setR8 r v).joypad = s.joypad := rfl
@[simp] theorem setR8_platform (s : State) (r : R8) (v : Byte) : (s.setR8 r v).platform = s.platform := rfl
@[simp] theorem setR8_regs (s : State) (r : R8) (v : Byte) : (s.setR8 r v).cpu.regs = s.cpu.regs.set r.reg v := rfl
@[simp] theorem setR8_pc (s : State) (r : R8) (v : Byte) : (s.setR8 r v).cpu.pc = s.cpu.pc := rfl
@[simp] theorem setR8_sp (s : State) (r : R8) (v : Byte) : (s.setR8 r v).cpu.sp = s.cpu.sp := rfl
@[simp] theorem setR8_ime (s : State) (r : R8) (v : Byte) : (s.setR8 r v).cpu.ime = s.cpu.ime := rfl
@[simp] theorem setR8_ie (s : State) (r : R8) (v : Byte) : (s.setR8 r v).cpu.ie = s.cpu.ie := rfl
@[simp] theorem setR8_iflag (s : State) (r : R8) (v : Byte) : (s.setR8 r v).cpu.iflag = s.cpu.iflag := rfl
@[simp] theorem setR8_next (s : State) (r : R8) (v : Byte) : (s.setR8 r v).cpu.next = s.cpu.next := rfl

/-! `setRegBit` -/

@[simp] theorem setRegBit_params (s : State) (r : Reg) (i : Fin 8) (b : Bool) : (s.setRegBit r i b).params = s.params := rfl
@[simp] theorem setRegBit_cyc (s : State) (r : Reg) (i : Fin 8) (b : Bool) : (s.setRegBit r i b).cyc = s.cyc := rfl
@[simp] theorem setRegBit_fault (s : State) (r : Reg) (i : Fin 8) (b : Bool) : (s.setRegBit r i b).fault = s.fault := rfl
@[simp] theorem setRegBit_timer (s : State) (r : Reg) (i : Fin 8) (b : Bool) : (s.setRegBit r i b).timer = s.timer := rfl
@[simp] theorem setRegBit_lcd (s : State) (r : Reg) (i : Fin 8) (b : Bool) : (s.setRegBit r i b).lcd = s.lcd := rfl
@[simp] theorem setRegBit_joypad (s : State) (r : Reg) (i : Fin 8) (b : Bool) : (s.setRegBit r i b).joypad = s.joypad := rfl
@[simp] theorem setRegBit_platform (s : State) (r : Reg) (i : Fin 8) (b : Bool) : (s.setRegBit r i b).platform = s.platform := rfl
@[simp] theorem setRegBit_regs (s : State) (r : Reg) (i : Fin 8) (b : Bool) : (s.setRegBit r i b).cpu.regs = s.cpu.regs.set r (bitSet (s.reg r) i.val b) := rfl
@[simp] theorem setRegBit_pc (s : State) (r : Reg) (i : Fin 8) (b : Bool) : (s.setRegBit r i b).cpu.pc = s.cpu.pc := rfl
@[simp] theorem setRegBit_sp (s : State) (r : Reg) (i : Fin 8) (b : Bool) : (s.setRegBit r i b).cpu.sp = s.cpu.sp := rfl
@[simp] theorem setRegBit_ime (s : State) (r : Reg) (i : Fin 8) (b : Bool) : (s.setRegBit r i b).cpu.ime = s.cpu.ime := rfl
@[simp] theorem setRegBit_ie (s : State) (r : Reg) (i : Fin 8) (b : Bool) : (s.setRegBit r i b).cpu.ie = s.cpu.ie := rfl
@[simp] theorem setRegBit_iflag (s : State) (r : Reg) (i : Fin 8) (b : Bool) : (s.setRegBit r i b).cpu.iflag = s.cpu.iflag := rfl
@[simp] theorem setRegBit_next (s : State) (r : Reg) (i : Fin 8) (b : Bool) : (s.setRegBit r i b).cpu.next = s.cpu.next := rfl

/-! `setFlags` -/

@[simp] theorem setFlags_params (s : State) (t : FlagTuple) (f : Flags) : (s.setFlags t f).params = s.params := rfl
@[simp] theorem setFlags_cyc (s : State) (t : FlagTuple) (f : Flags) : (s.setFlags t f).cyc = s.cyc := rfl
@[simp] theorem setFlags_fault (s : State) (t : FlagTuple) (f : Flags) : (s.setFlags t f).fault = s.fault := rfl
@[simp] theorem setFlags_timer (s : State) (t : FlagTuple) (f : Flags) : (s.setFlags t f).timer = s.timer := rfl
@[simp] theorem setFlags_lcd (s : State) (t : FlagTuple) (f : Flags) : (s.setFlags t f).lcd = s.lcd := rfl
@[simp] theorem setFlags_joypad (s : State) (t : FlagTuple) (f : Flags) : (s.setFlags t f).joypad = s.joypad := rfl
@[simp] theorem setFlags_platform (s : State) (t : FlagTuple) (f : Flags) : (s.setFlags t f).platform = s.platform := rfl
@[simp] theorem setFlags_regs (s : State) (t : FlagTuple) (f : Flags) : (s.setFlags t f).cpu.regs = s.cpu.regs.set .f (Alu.maskZNHC (t.pick f s.flags)) := rfl
@[simp] theorem setFlags_pc (s : State) (t : FlagTuple) (f : Flags) : (s.setFlags t f).cpu.pc = s.cpu.pc := rfl
@[simp] theorem setFlags_sp (s : State) (t : FlagTuple) (f : Flags) : (s.setFlags t f).cpu.sp = s.cpu.sp := rfl
@[simp] theorem setFlags_ime (s : State) (t : FlagTuple) (f : Flags) : (s.setFlags t f).cpu.ime = s.cpu.ime := rfl
@[simp] theorem setFlags_ie (s : State) (t : FlagTuple) (f : Flags) : (s.setFlags t f).cpu.ie = s.cpu.ie := rfl
@[simp] theorem setFlags_iflag (s : State) (t : FlagTuple) (f : Flags) : (s.setFlags t f).cpu.iflag = s.cpu.iflag := rfl
@[simp] theorem setFlags_next (s : State) (t : FlagTuple) (f : Flags) : (s.setFlags t f).cpu.next = s.cpu.next := rfl

/-! `setPair` -/

@[simp] theorem setPair_params (s : State) (p : Pair) (v : Addr) : (s.setPair p v).params = s.params := rfl
@[simp] theorem setPair_cyc (s : State) (p : Pair) (v : Addr) : (s.setPair p v).cyc = s.cyc := rfl
@[simp] theorem setPair_fault (s : State) (p : Pair) (v : Addr) : (s.setPair p v).fault = s.fault := rfl
@[simp] theorem setPair_timer (s : State) (p : Pair) (v : Addr) : (s.setPair p v).timer = s.timer := rfl
@[simp] theorem setPair_lcd (s : State) (p : Pair) (v : Addr) : (s.setPair p v).lcd = s.lcd := rfl
@[simp] theorem setPair_joypad (s : State) (p : Pair) (v : Addr) : (s.setPair p v).joypad = s.joypad := rfl
@[simp] theorem setPair_platform (s : State) (p : Pair) (v : Addr) : (s.setPair p v).platform = s.platform := rfl
@[simp] theorem setPair_regs (s : State) (p : Pair) (v : Addr) : (s.setPair p v).cpu.regs = (s.cpu.regs.set (Pair.regs p).1 (highByte v)).set (Pair.regs p).2 (lowByte v) := rfl
@[simp] theorem setPair_pc (s : State) (p : Pair) (v : Addr) : (s.setPair p v).cpu.pc = s.cpu.pc := rfl
@[simp] theorem setPair_sp (s : State) (p : Pair) (v : Addr) : (s.setPair p v).cpu.sp = s.cpu.sp := rfl
@[simp] theorem setPair_ime (s : State) (p : Pair) (v : Addr) : (s.setPair p v).cpu.ime = s.cpu.ime := rfl
@[simp] theorem setPair_ie (s : State) (p : Pair) (v : Addr) : (s.setPair p v).cpu.ie = s.cpu.ie := rfl
@[simp] theorem setPair_iflag (s : State) (p : Pair) (v : Addr) : (s.setPair p v).cpu.iflag = s.cpu.iflag := rfl
@[simp] theorem setPair_next (s : State) (p : Pair) (v : Addr) : (s.setPair p v).cpu.next = s.cpu.next := rfl

/-! `setSp` -/

@[simp] theorem setSp_params (s : State) (v : Addr) : (s.setSp v).params = s.params := rfl
@[simp] theorem setSp_cyc (s : State) (v : Addr) : (s.setSp v).cyc = s.cyc := rfl
@[simp] theorem setSp_fault (s : State) (v : Addr) : (s.setSp v).fault = s.fault := rfl
@[simp] theorem setSp_timer (s : State) (v : Addr) : (s.setSp v).timer = s.timer := rfl
@[simp] theorem setSp_lcd (s : State) (v : Addr) : (s.setSp v).lcd = s.lcd := rfl
@[simp] theorem setSp_joypad (s : State) (v : Addr) : (s.setSp v).joypad = s.joypad := rfl
@[simp] theorem setSp_platform (s : State) (v : Addr) : (s.setSp v).platform = s.platform := rfl
@[simp] theorem setSp_regs (s : State) (v : Addr) : (s.setSp v).cpu.regs = s.cpu.regs := rfl
@[simp] theorem setSp_pc (s : State) (v : Addr) : (s.setSp v).cpu.pc = s.cpu.pc := rfl
@[simp] theorem setSp_sp (s : State) (v : Addr) : (s.setSp v).cpu.sp = v := rfl
@[simp] theorem setSp_ime (s : State) (v : Addr) : (s.setSp v).cpu.ime = s.cpu.ime := rfl
@[simp] theorem setSp_ie (s : State) (v : Addr) : (s.setSp v).cpu.ie = s.cpu.ie := rfl
@[simp] theorem setSp_iflag (s : State) (v : Addr) : (s.setSp v).cpu.iflag = s.cpu.iflag := rfl
@[simp] theorem setSp_next (s : State) (v : Addr) : (s.setSp v).cpu.next = s.cpu.next := rfl

/-! `setIme` -/

@[simp] theorem setIme_params (s : State) (b : Bool) : (s.setIme b).params = s.params := rfl
@[simp] theorem setIme_cyc (s : State) (b : Bool) : (s.setIme b).cyc = s.cyc := rfl
@[simp] theorem setIme_fault (s : State) (b : Bool) : (s.setIme b).fault = s.fault := rfl
@[simp] theorem setIme_timer (s : State) (b : Bool) : (s.setIme b).timer = s.timer := rfl
@[simp] theorem setIme_lcd (s : State) (b : Bool) : (s.setIme b).lcd = s.lcd := rfl
@[simp] theorem setIme_joypad (s : State) (b : Bool) : (s.setIme b).joypad = s.joypad := rfl
@[simp] theorem setIme_platform (s : State) (b : Bool) : (s.setIme b).platform = s.platform := rfl
@[simp] theorem setIme_regs (s : State) (b : Bool) : (s.setIme b).cpu.regs = s.cpu.regs := rfl
@[simp] theorem setIme_pc (s : State) (b : Bool) : (s.setIme b).cpu.pc = s.cpu.pc := rfl
@[simp] theorem setIme_sp (s : State) (b : Bool) : (s.setIme b).cpu.sp = s.cpu.sp := rfl
@[simp] theorem setIme_ime (s : State) (b : Bool) : (s.setIme b).cpu.ime = b := rfl
@[simp] theorem setIme_ie (s : State) (b : Bool) : (s.setIme b).cpu.ie = s.cpu.ie := rfl
@[simp] theorem setIme_iflag (s : State) (b : Bool) : (s.setIme b).cpu.iflag = s.cpu.iflag := rfl
@[simp] theorem setIme_next (s : State) (b : Bool) : (s.setIme b).cpu.next = s.cpu.next := rfl

/-! `finish` -/

@[simp] theorem finish_params (s : State) (target : Addr) (cost : Nat) : (s.finish target cost).params = s.params := rfl
@[simp] theorem finish_cyc (s : State) (target : Addr) (cost : Nat) : (s.finish target cost).cyc = s.cyc := rfl
@[simp] theorem finish_fault (s : State) (target : Addr) (cost : Nat) : (s.finish target cost).fault = s.fault := rfl
@[simp] theorem finish_timer (s : State) (target : Addr) (cost : Nat) : (s.finish target cost).timer = s.timer := rfl
@[simp] theorem finish_lcd (s : State) (target : Addr) (cost : Nat) : (s.finish target cost).lcd = s.lcd := rfl
@[simp] theorem finish_joypad (s : State) (target : Addr) (cost : Nat) : (s.finish target cost).joypad = s.joypad := rfl
@[simp] theorem finish_platform (s : State) (target : Addr) (cost : Nat) : (s.finish target cost).platform = s.platform := rfl
@[simp] theorem finish_regs (s : State) (target : Addr) (cost : Nat) : (s.finish target cost).cpu.regs = s.cpu.regs := rfl
@[simp] theorem finish_pc (s : State) (target : Addr) (cost : Nat) : (s.finish target cost).cpu.pc = target := rfl
@[simp] theorem finish_sp (s : State) (target : Addr) (cost : Nat) : (s.finish target cost).cpu.sp = s.cpu.sp := rfl
@[simp] theorem finish_ime (s : State) (target : Addr) (cost : Nat) : (s.finish target cost).cpu.ime = s.cpu.ime := rfl
@[simp] theorem finish_ie (s : State) (target : Addr) (cost : Nat) : (s.finish target cost).cpu.ie = s.cpu.ie := rfl
@[simp] theorem finish_iflag (s : State) (target : Addr) (cost : Nat) : (s.finish target cost).cpu.iflag = s.cpu.iflag := rfl
@[simp] theorem finish_next (s : State) (target : Addr) (cost : Nat) : (s.finish target cost).cpu.next = some (s.cyc + cost) := rfl

/-! `retire` -/

@[simp] theorem retire_params (s : State) (o : Op) : (s.retire o).params = s.params := rfl
@[simp] theorem retire_cyc (s : State) (o : Op) : (s.retire o).cyc = s.cyc := rfl
@[simp] theorem retire_fault (s : State) (o : Op) : (s.retire o).fault = s.fault := rfl
@[simp] theorem retire_timer (s : State) (o : Op) : (s.retire o).timer = s.timer := rfl
@[simp] theorem retire_lcd (s : State) (o : Op) : (s.retire o).lcd = s.lcd := rfl
@[simp] theorem retire_joypad (s : State) (o : Op) : (s.retire o).joypad = s.joypad := rfl
@[simp] theorem retire_platform (s : State) (o : Op) : (s.retire o).platform = s.platform := rfl
@[simp] theorem retire_regs (s : State) (o : Op) : (s.retire o).cpu.regs = s.cpu.regs := rfl
@[simp] theorem retire_pc (s : State) (o : Op) : (s.retire o).cpu.pc = s.pcNext o := rfl
@[simp] theorem retire_sp (s : State) (o : Op) : (s.retire o).cpu.sp = s.cpu.sp := rfl
@[simp] theorem retire_ime (s : State) (o : Op) : (s.retire o).cpu.ime = s.cpu.ime := rfl
@[simp] theorem retire_ie (s : State) (o : Op) : (s.retire o).cpu.ie = s.cpu.ie := rfl
@[simp] theorem retire_iflag (s : State) (o : Op) : (s.retire o).cpu.iflag = s.cpu.iflag := rfl
@[simp] theorem retire_next (s : State) (o : Op) : (s.retire o).cpu.next = some (s.cyc + (s.descriptor o).cycles) := rfl

/-! `jump` -/

@[simp] theorem jump_params (s : State) (o : Op) (target : Addr) : (s.jump o target).params = s.params := rfl
@[simp] theorem jump_cyc (s : State) (o : Op) (target : Addr) : (s.jump o target).cyc = s.cyc := rfl
@[simp] theorem jump_fault (s : State) (o : Op) (target : Addr) : (s.jump o target).fault = s.fault := rfl
@[simp] theorem jump_timer (s : State) (o : Op) (target : Addr) : (s.jump o target).timer = s.timer := rfl
@[simp] theorem jump_lcd (s : State) (o : Op) (target : Addr) : (s.jump o target).lcd = s.lcd := rfl
@[simp] theorem jump_joypad (s : State) (o : Op) (target : Addr) : (s.jump o target).joypad = s.joypad := rfl
@[simp] theorem jump_platform (s : State) (o : Op) (target : Addr) : (s.jump o target).platform = s.platform := rfl
@[simp] theorem jump_regs (s : State) (o : Op) (target : Addr) : (s.jump o target).cpu.regs = s.cpu.regs := rfl
@[simp] theorem jump_pc (s : State) (o : Op) (target : Addr) : (s.jump o target).cpu.pc = target := rfl
@[simp] theorem jump_sp (s : State) (o : Op) (target : Addr) : (s.jump o target).cpu.sp = s.cpu.sp := rfl
@[simp] theorem jump_ime (s : State) (o : Op) (target : Addr) : (s.jump o target).cpu.ime = s.cpu.ime := rfl
@[simp] theorem jump_ie (s : State) (o : Op) (target : Addr) : (s.jump o target).cpu.ie = s.cpu.ie := rfl
@[simp] theorem jump_iflag (s : State) (o : Op) (target : Addr) : (s.jump o target).cpu.iflag = s.cpu.iflag := rfl
@[simp] theorem jump_next (s : State) (o : Op) (target : Addr) : (s.jump o target).cpu.next = some (s.cyc + (s.descriptor o).cycles) := rfl

/-! `jumpTaken` -/

@[simp] theorem jumpTaken_params (s : State) (o : Op) (target : Addr) : (s.jumpTaken o target).params = s.params := rfl
@[simp] theorem jumpTaken_cyc (s : State) (o : Op) (target : Addr) : (s.jumpTaken o target).cyc = s.cyc := rfl
@[simp] theorem jumpTaken_fault (s : State) (o : Op) (target : Addr) : (s.jumpTaken o target).fault = s.fault := rfl
@[simp] theorem jumpTaken_timer (s : State) (o : Op) (target : Addr) : (s.jumpTaken o target).timer = s.timer := rfl
@[simp] theorem jumpTaken_lcd (s : State) (o : Op) (target : Addr) : (s.jumpTaken o target).lcd = s.lcd := rfl
@[simp] theorem jumpTaken_joypad (s : State) (o : Op) (target : Addr) : (s.jumpTaken o target).joypad = s.joypad := rfl
@[simp] theorem jumpTaken_platform (s : State) (o : Op) (target : Addr) : (s.jumpTaken o target).platform = s.platform := rfl
@[simp] theorem jumpTaken_regs (s : State) (o : Op) (target : Addr) : (s.jumpTaken o target).cpu.regs = s.cpu.regs := rfl
@[simp] theorem jumpTaken_pc (s : State) (o : Op) (target : Addr) : (s.jumpTaken o target).cpu.pc = target := rfl
@[simp] theorem jumpTaken_sp (s : State) (o : Op) (target : Addr) : (s.jumpTaken o target).cpu.sp = s.cpu.sp := rfl
@[simp] theorem jumpTaken_ime (s : State) (o : Op) (target : Addr) : (s.jumpTaken o target).cpu.ime = s.cpu.ime := rfl
@[simp] theorem jumpTaken_ie (s : State) (o : Op) (target : Addr) : (s.jumpTaken o target).cpu.ie = s.cpu.ie := rfl
@[simp] theorem jumpTaken_iflag (s : State) (o : Op) (target : Addr) : (s.jumpTaken o target).cpu.iflag = s.cpu.iflag := rfl
@[simp] theorem jumpTaken_next (s : State) (o : Op) (target : Addr) : (s.jumpTaken o target).cpu.next = some (s.cyc + ((s.descriptor o).cycles + (s.descriptor o).extra)) := rfl

/-! `popped` -/

@[simp] theorem popped_params (s : State) : (popped s).params = s.params := rfl
@[simp] theorem popped_cyc (s : State) : (popped s).cyc = s.cyc := rfl
@[simp] theorem popped_fault (s : State) : (popped s).fault = s.fault := rfl
@[simp] theorem popped_timer (s : State) : (popped s).timer = s.timer := rfl
@[simp] theorem popped_lcd (s : State) : (popped s).lcd = s.lcd := rfl
@[simp] theorem popped_joypad (s : State) : (popped s).joypad = s.joypad := rfl
@[simp] theorem popped_platform (s : State) : (popped s).platform = s.platform := rfl
@[simp] theorem popped_regs (s : State) : (popped s).cpu.regs = s.cpu.regs := rfl
@[simp] theorem popped_pc (s : State) : (popped s).cpu.pc = s.cpu.pc := rfl
@[simp] theorem popped_sp (s : State) : (popped s).cpu.sp = s.cpu.sp + 2#16 := rfl
@[simp] theorem popped_ime (s : State) : (popped s).cpu.ime = s.cpu.ime := rfl
@[simp] theorem popped_ie (s : State) : (popped s).cpu.ie = s.cpu.ie := rfl
@[simp] theorem popped_iflag (s : State) : (popped s).cpu.iflag = s.cpu.iflag := rfl
@[simp] theorem popped_next (s : State) : (popped s).cpu.next = s.cpu.next := rfl

/-! `raiseFault` -/

@[simp] theorem raiseFault_params (s : State) (k : Fault) : (raiseFault k s).params = s.params := rfl
@[simp] theorem raiseFault_cyc (s : State) (k : Fault) : (raiseFault k s).cyc = s.cyc := rfl
@[simp] theorem raiseFault_fault (s : State) (k : Fault) : (raiseFault k s).fault = some k := rfl
@[simp] theorem raiseFault_timer (s : State) (k : Fault) : (raiseFault k s).timer = s.timer := rfl
@[simp] theorem raiseFault_lcd (s : State) (k : Fault) : (raiseFault k s).lcd = s.lcd := rfl
@[simp] theorem raiseFault_joypad (s : State) (k : Fault) : (raiseFault k s).joypad = s.joypad := rfl
@[simp] theorem raiseFault_platform (s : State) (k : Fault) : (raiseFault k s).platform = s.platform := rfl
@[simp] theorem raiseFault_regs (s : State) (k : Fault) : (raiseFault k s).cpu.regs = s.cpu.regs := rfl
@[simp] theorem raiseFault_pc (s : State) (k : Fault) : (raiseFault k s).cpu.pc = s.cpu.pc := rfl
@[simp] theorem raiseFault_sp (s : State) (k : Fault) : (raiseFault k s).cpu.sp = s.cpu.sp := rfl
@[simp] theorem raiseFault_ime (s : State) (k : Fault) : (raiseFault k s).cpu.ime = s.cpu.ime := rfl
@[simp] theorem raiseFault_ie (s : State) (k : Fault) : (raiseFault k s).cpu.ie = s.cpu.ie := rfl
@[simp] theorem raiseFault_iflag (s : State) (k : Fault) : (raiseFault k s).cpu.iflag = s.cpu.iflag := rfl
@[simp] theorem raiseFault_next (s : State) (k : Fault) : (raiseFault k s).cpu.next = s.cpu.next := rfl

/-! `requestInterrupt` -/

@[simp] theorem requestInterrupt_params (s : State) (i : Source) : (requestInterrupt i s).params = s.params := rfl
@[simp] theorem requestInterrupt_cyc (s : State) (i : Source) : (requestInterrupt i s).cyc = s.cyc := rfl
@[simp] theorem requestInterrupt_fault (s : State) (i : Source) : (requestInterrupt i s).fault = s.fault := rfl
@[simp] theorem requestInterrupt_timer (s : State) (i : Source) : (requestInterrupt i s).timer = s.timer := rfl
@[simp] theorem requestInterrupt_lcd (s : State) (i : Source) : (requestInterrupt i s).lcd = s.lcd := rfl
@[simp] theorem requestInterrupt_joypad (s : State) (i : Source) : (requestInterrupt i s).joypad = s.joypad := rfl
@[simp] theorem requestInterrupt_platform (s : State) (i : Source) : (requestInterrupt i s).platform = s.platform := rfl
@[simp] theorem requestInterrupt_regs (s : State) (i : Source) : (requestInterrupt i s).cpu.regs = s.cpu.regs := rfl
@[simp] theorem requestInterrupt_pc (s : State) (i : Source) : (requestInterrupt i s).cpu.pc = s.cpu.pc := rfl
@[simp] theorem requestInterrupt_sp (s : State) (i : Source) : (requestInterrupt i s).cpu.sp = s.cpu.sp := rfl
@[simp] theorem requestInterrupt_ime (s : State) (i : Source) : (requestInterrupt i s).cpu.ime = s.cpu.ime := rfl
@[simp] theorem requestInterrupt_ie (s : State) (i : Source) : (requestInterrupt i s).cpu.ie = s.cpu.ie := rfl
@[simp] theorem requestInterrupt_iflag (s : State) (i : Source) : (requestInterrupt i s).cpu.iflag = s.cpu.iflag ||| i.bit := rfl
@[simp] theorem requestInterrupt_next (s : State) (i : Source) : (requestInterrupt i s).cpu.next = s.cpu.next := rfl

/-! `acknowledge` -/

@[simp] theorem acknowledge_params (s : State) (i : Source) : (acknowledge i s).params = s.params := rfl
@[simp] theorem acknowledge_cyc (s : State) (i : Source) : (acknowledge i s).cyc = s.cyc := rfl
@[simp] theorem acknowledge_fault (s : State) (i : Source) : (acknowledge i s).fault = s.fault := rfl
@[simp] theorem acknowledge_timer (s : State) (i : Source) : (acknowledge i s).timer = s.timer := rfl
@[simp] theorem acknowledge_lcd (s : State) (i : Source) : (acknowledge i s).lcd = s.lcd := rfl
@[simp] theorem acknowledge_joypad (s : State) (i : Source) : (acknowledge i s).joypad = s.joypad := rfl
@[simp] theorem acknowledge_platform (s : State) (i : Source) : (acknowledge i s).platform = s.platform := rfl
@[simp] theorem acknowledge_regs (s : State) (i : Source) : (acknowledge i s).cpu.regs = s.cpu.regs := rfl
@[simp] theorem acknowledge_pc (s : State) (i : Source) : (acknowledge i s).cpu.pc = s.cpu.pc := rfl
@[simp] theorem acknowledge_sp (s : State) (i : Source) : (acknowledge i s).cpu.sp = s.cpu.sp := rfl
@[simp] theorem acknowledge_ime (s : State) (i : Source) : (acknowledge i s).cpu.ime = false := rfl
@[simp] theorem acknowledge_ie (s : State) (i : Source) : (acknowledge i s).cpu.ie = s.cpu.ie := rfl
@[simp] theorem acknowledge_iflag (s : State) (i : Source) : (acknowledge i s).cpu.iflag = s.cpu.iflag &&& ~~~i.bit := rfl
@[simp] theorem acknowledge_next (s : State) (i : Source) : (acknowledge i s).cpu.next = s.cpu.next := rfl

/-! `requestIf` -/

@[simp] theorem requestIf_true (i : Source) (s : State) : requestIf true i s = requestInterrupt i s := rfl

@[simp] theorem requestIf_false (i : Source) (s : State) : requestIf false i s = s := rfl

@[simp] theorem requestIf_params (c : Bool) (i : Source) (s : State) : (requestIf c i s).params = s.params := by cases c <;> rfl
@[simp] theorem requestIf_cyc (c : Bool) (i : Source) (s : State) : (requestIf c i s).cyc = s.cyc := by cases c <;> rfl
@[simp] theorem requestIf_fault (c : Bool) (i : Source) (s : State) : (requestIf c i s).fault = s.fault := by cases c <;> rfl
@[simp] theorem requestIf_timer (c : Bool) (i : Source) (s : State) : (requestIf c i s).timer = s.timer := by cases c <;> rfl
@[simp] theorem requestIf_lcd (c : Bool) (i : Source) (s : State) : (requestIf c i s).lcd = s.lcd := by cases c <;> rfl
@[simp] theorem requestIf_joypad (c : Bool) (i : Source) (s : State) : (requestIf c i s).joypad = s.joypad := by cases c <;> rfl
@[simp] theorem requestIf_platform (c : Bool) (i : Source) (s : State) : (requestIf c i s).platform = s.platform := by cases c <;> rfl
@[simp] theorem requestIf_regs (c : Bool) (i : Source) (s : State) : (requestIf c i s).cpu.regs = s.cpu.regs := by cases c <;> rfl
@[simp] theorem requestIf_pc (c : Bool) (i : Source) (s : State) : (requestIf c i s).cpu.pc = s.cpu.pc := by cases c <;> rfl
@[simp] theorem requestIf_sp (c : Bool) (i : Source) (s : State) : (requestIf c i s).cpu.sp = s.cpu.sp := by cases c <;> rfl
@[simp] theorem requestIf_ime (c : Bool) (i : Source) (s : State) : (requestIf c i s).cpu.ime = s.cpu.ime := by cases c <;> rfl
@[simp] theorem requestIf_ie (c : Bool) (i : Source) (s : State) : (requestIf c i s).cpu.ie = s.cpu.ie := by cases c <;> rfl
@[simp] theorem requestIf_next (c : Bool) (i : Source) (s : State) : (requestIf c i s).cpu.next = s.cpu.next := by cases c <;> rfl

theorem requestIf_iflag (c : Bool) (i : Source) (s : State) :
    (requestIf c i s).cpu.iflag = if c then s.cpu.iflag ||| i.bit else s.cpu.iflag := by cases c <;> rfl

/-! The register file. -/

@[simp] theorem Regs.get_set_self (g : Regs) (r : Reg) (v : Byte) (h : r ≠ .f) : (g.set r v).get r = v := by
  cases r <;> first | rfl | exact absurd rfl h

@[simp] theorem Regs.get_set_f (g : Regs) (v : Byte) : (g.set .f v).get .f = v &&& 0xF0#8 := rfl

@[simp] theorem Regs.get_set_ne (g : Regs) (r q : Reg) (v : Byte) (h : q ≠ r) : (g.set r v).get q = g.get q := by
  cases r <;> cases q <;> first | rfl | exact absurd rfl h

@[simp] theorem Regs.set_set (g : Regs) (r : Reg) (v w : Byte) : (g.set r v).set r w = g.set r w := by cases r <;> rfl

/-- Two register files with the same contents are equal. -/
theorem Regs.ext_get (g k : Regs) (h : ∀ r, g.get r = k.get r) : g = k := by
  cases g; cases k
  have ha := h .a; have hf := h .f; have hb := h .b; have hc := h .c
  have hd := h .d; have he := h .e; have hh := h .h; have hl := h .l
  simp_all [Regs.get]

@[simp] theorem R8.reg_ne_f (r : R8) : r.reg ≠ .f := by cases r <;> decide

@[simp] theorem R8.f_ne_reg (r : R8) : Reg.f ≠ r.reg := by cases r <;> decide

/-- The bits of the flag mask. -/
theorem maskZNHC_bits (f : Flags) : (Alu.maskZNHC f).getLsbD 7 = f.z ∧ (Alu.maskZNHC f).getLsbD 6 = f.n ∧
    (Alu.maskZNHC f).getLsbD 5 = f.h ∧ (Alu.maskZNHC f).getLsbD 4 = f.c := by
  rcases f with ⟨z, n, h, c⟩
  cases z <;> cases n <;> cases h <;> cases c <;> decide

/-- The low nibble of the flag mask is 0. -/
@[simp] theorem maskZNHC_high (f : Flags) : Alu.maskZNHC f &&& 0xF0#8 = Alu.maskZNHC f := by
  rcases f with ⟨z, n, h, c⟩
  cases z <;> cases n <;> cases h <;> cases c <;> decide

@[simp] theorem flags_setFlags (s : State) (t : FlagTuple) (f : Flags) : (s.setFlags t f).flags = t.pick f s.flags := by
  have key : ∀ g : Flags, Flags.mk ((Alu.maskZNHC g).getLsbD 7) ((Alu.maskZNHC g).getLsbD 6)
      ((Alu.maskZNHC g).getLsbD 5) ((Alu.maskZNHC g).getLsbD 4) = g := fun g => by
    obtain ⟨h7, h6, h5, h4⟩ := maskZNHC_bits g
    rw [h7, h6, h5, h4]
  have e : (s.setFlags t f).cpu.regs.f = Alu.maskZNHC (t.pick f s.flags) := maskZNHC_high _
  rw [State.flags, e]
  exact key _

@[simp] theorem flags_setReg (s : State) (r : Reg) (v : Byte) (h : r ≠ .f) : (s.setReg r v).flags = s.flags := by
  cases r <;> first | rfl | exact absurd rfl h

@[simp] theorem flags_setR8 (s : State) (r : R8) (v : Byte) : (s.setR8 r v).flags = s.flags := by cases r <;> rfl

@[simp] theorem reg_setReg_self (s : State) (r : Reg) (v : Byte) (h : r ≠ .f) : (s.setReg r v).reg r = v :=
  Regs.get_set_self _ _ _ h

@[simp] theorem reg_setReg_ne (s : State) (r q : Reg) (v : Byte) (h : q ≠ r) : (s.setReg r v).reg q = s.reg q :=
  Regs.get_set_ne _ _ _ _ h

@[simp] theorem reg_setFlags_ne (s : State) (t : FlagTuple) (f : Flags) (q : Reg) (h : q ≠ .f) :
    (s.setFlags t f).reg q = s.reg q := Regs.get_set_ne _ _ _ _ h

@[simp] theorem r8_setFlags (s : State) (t : FlagTuple) (f : Flags) (r : R8) : (s.setFlags t f).r8 r = s.r8 r := by
  cases r <;> rfl

@[simp] theorem hl_setFlags (s : State) (t : FlagTuple) (f : Flags) : (s.setFlags t f).hl = s.hl := rfl

/-- The two halves of a 16-bit value put together again (`20_memory.md` R94). -/
@[simp] theorem make16_high_low (v : Addr) : make16 (highByte v) (lowByte v) = v := by
  unfold make16 highByte lowByte
  apply BitVec.eq_of_getLsbD_eq
  intro i hi
  simp only [BitVec.getLsbD_append, BitVec.getLsbD_setWidth, BitVec.getLsbD_ushiftRight]
  by_cases h : i < 8
  · simp [h]
  · have : i - 8 < 8 := by omega
    simp [h, this]
    congr 1
    omega

/-- A pair holds what was written to it, except AF, whose low nibble is masked (`10_state.md` R25). -/
theorem pair_setPair (s : State) (p : Pair) (v : Addr) (h : p ≠ .af) : (s.setPair p v).pair p = v := by
  cases p <;> first | exact absurd rfl h | exact make16_high_low v

end Sys2Proof.Machine
end

