-- ==== Sys2Proof/Laws/Devices.lean ====
section
/-! SUPPORT. What the devices leave alone: a device writes its own registers and requests interrupts, nothing else of the state. -/

namespace Sys2Proof.Machine

/-! Timer. -/

@[simp] theorem incIfFalling_params (s : State) (s0 : Bool) : (incIfFalling s0 s).params = s.params := by
  unfold incIfFalling; repeat (first | rfl | split)
@[simp] theorem incIfFalling_cyc (s : State) (s0 : Bool) : (incIfFalling s0 s).cyc = s.cyc := by
  unfold incIfFalling; repeat (first | rfl | split)
@[simp] theorem incIfFalling_fault (s : State) (s0 : Bool) : (incIfFalling s0 s).fault = s.fault := by
  unfold incIfFalling; repeat (first | rfl | split)
@[simp] theorem incIfFalling_regs (s : State) (s0 : Bool) : (incIfFalling s0 s).cpu.regs = s.cpu.regs := by
  unfold incIfFalling; repeat (first | rfl | split)
@[simp] theorem incIfFalling_pc (s : State) (s0 : Bool) : (incIfFalling s0 s).cpu.pc = s.cpu.pc := by
  unfold incIfFalling; repeat (first | rfl | split)
@[simp] theorem incIfFalling_sp (s : State) (s0 : Bool) : (incIfFalling s0 s).cpu.sp = s.cpu.sp := by
  unfold incIfFalling; repeat (first | rfl | split)
@[simp] theorem incIfFalling_ime (s : State) (s0 : Bool) : (incIfFalling s0 s).cpu.ime = s.cpu.ime := by
  unfold incIfFalling; repeat (first | rfl | split)
@[simp] theorem incIfFalling_next (s : State) (s0 : Bool) : (incIfFalling s0 s).cpu.next = s.cpu.next := by
  unfold incIfFalling; repeat (first | rfl | split)
@[simp] theorem incIfFalling_ie (s : State) (s0 : Bool) : (incIfFalling s0 s).cpu.ie = s.cpu.ie := by
  unfold incIfFalling; repeat (first | rfl | split)
@[simp] theorem incIfFalling_lcd (s : State) (s0 : Bool) : (incIfFalling s0 s).lcd = s.lcd := by
  unfold incIfFalling; repeat (first | rfl | split)
@[simp] theorem incIfFalling_joypad (s : State) (s0 : Bool) : (incIfFalling s0 s).joypad = s.joypad := by
  unfold incIfFalling; repeat (first | rfl | split)
@[simp] theorem incIfFalling_platform (s : State) (s0 : Bool) : (incIfFalling s0 s).platform = s.platform := by
  unfold incIfFalling; repeat (first | rfl | split)

@[simp] theorem timerStep_params (s : State) : (timerStep s).params = s.params := by
  unfold timerStep; simp only [incIfFalling_params]
@[simp] theorem timerStep_cyc (s : State) : (timerStep s).cyc = s.cyc := by
  unfold timerStep; simp only [incIfFalling_cyc]
@[simp] theorem timerStep_fault (s : State) : (timerStep s).fault = s.fault := by
  unfold timerStep; simp only [incIfFalling_fault]
@[simp] theorem timerStep_regs (s : State) : (timerStep s).cpu.regs = s.cpu.regs := by
  unfold timerStep; simp only [incIfFalling_regs]
@[simp] theorem timerStep_pc (s : State) : (timerStep s).cpu.pc = s.cpu.pc := by
  unfold timerStep; simp only [incIfFalling_pc]
@[simp] theorem timerStep_sp (s : State) : (timerStep s).cpu.sp = s.cpu.sp := by
  unfold timerStep; simp only [incIfFalling_sp]
@[simp] theorem timerStep_ime (s : State) : (timerStep s).cpu.ime = s.cpu.ime := by
  unfold timerStep; simp only [incIfFalling_ime]
@[simp] theorem timerStep_next (s : State) : (timerStep s).cpu.next = s.cpu.next := by
  unfold timerStep; simp only [incIfFalling_next]
@[simp] theorem timerStep_ie (s : State) : (timerStep s).cpu.ie = s.cpu.ie := by
  unfold timerStep; simp only [incIfFalling_ie]
@[simp] theorem timerStep_lcd (s : State) : (timerStep s).lcd = s.lcd := by
  unfold timerStep; simp only [incIfFalling_lcd]
@[simp] theorem timerStep_joypad (s : State) : (timerStep s).joypad = s.joypad := by
  unfold timerStep; simp only [incIfFalling_joypad]
@[simp] theorem timerStep_platform (s : State) : (timerStep s).platform = s.platform := by
  unfold timerStep; simp only [incIfFalling_platform]

@[simp] theorem writeDiv_params (s : State) : (writeDiv s).params = s.params := by
  unfold writeDiv; simp only [incIfFalling_params]
@[simp] theorem writeDiv_cyc (s : State) : (writeDiv s).cyc = s.cyc := by
  unfold writeDiv; simp only [incIfFalling_cyc]
@[simp] theorem writeDiv_fault (s : State) : (writeDiv s).fault = s.fault := by
  unfold writeDiv; simp only [incIfFalling_fault]
@[simp] theorem writeDiv_regs (s : State) : (writeDiv s).cpu.regs = s.cpu.regs := by
  unfold writeDiv; simp only [incIfFalling_regs]
@[simp] theorem writeDiv_pc (s : State) : (writeDiv s).cpu.pc = s.cpu.pc := by
  unfold writeDiv; simp only [incIfFalling_pc]
@[simp] theorem writeDiv_sp (s : State) : (writeDiv s).cpu.sp = s.cpu.sp := by
  unfold writeDiv; simp only [incIfFalling_sp]
@[simp] theorem writeDiv_ime (s : State) : (writeDiv s).cpu.ime = s.cpu.ime := by
  unfold writeDiv; simp only [incIfFalling_ime]
@[simp] theorem writeDiv_next (s : State) : (writeDiv s).cpu.next = s.cpu.next := by
  unfold writeDiv; simp only [incIfFalling_next]
@[simp] theorem writeDiv_ie (s : State) : (writeDiv s).cpu.ie = s.cpu.ie := by
  unfold writeDiv; simp only [incIfFalling_ie]
@[simp] theorem writeDiv_lcd (s : State) : (writeDiv s).lcd = s.lcd := by
  unfold writeDiv; simp only [incIfFalling_lcd]
@[simp] theorem writeDiv_joypad (s : State) : (writeDiv s).joypad = s.joypad := by
  unfold writeDiv; simp only [incIfFalling_joypad]
@[simp] theorem writeDiv_platform (s : State) : (writeDiv s).platform = s.platform := by
  unfold writeDiv; simp only [incIfFalling_platform]

@[simp] theorem writeTac_params (s : State) (v : Byte) : (writeTac s v).params = s.params := by
  unfold writeTac; simp only [incIfFalling_params]
@[simp] theorem writeTac_cyc (s : State) (v : Byte) : (writeTac s v).cyc = s.cyc := by
  unfold writeTac; simp only [incIfFalling_cyc]
@[simp] theorem writeTac_fault (s : State) (v : Byte) : (writeTac s v).fault = s.fault := by
  unfold writeTac; simp only [incIfFalling_fault]
@[simp] theorem writeTac_regs (s : State) (v : Byte) : (writeTac s v).cpu.regs = s.cpu.regs := by
  unfold writeTac; simp only [incIfFalling_regs]
@[simp] theorem writeTac_pc (s : State) (v : Byte) : (writeTac s v).cpu.pc = s.cpu.pc := by
  unfold writeTac; simp only [incIfFalling_pc]
@[simp] theorem writeTac_sp (s : State) (v : Byte) : (writeTac s v).cpu.sp = s.cpu.sp := by
  unfold writeTac; simp only [incIfFalling_sp]
@[simp] theorem writeTac_ime (s : State) (v : Byte) : (writeTac s v).cpu.ime = s.cpu.ime := by
  unfold writeTac; simp only [incIfFalling_ime]
@[simp] theorem writeTac_next (s : State) (v : Byte) : (writeTac s v).cpu.next = s.cpu.next := by
  unfold writeTac; simp only [incIfFalling_next]
@[simp] theorem writeTac_ie (s : State) (v : Byte) : (writeTac s v).cpu.ie = s.cpu.ie := by
  unfold writeTac; simp only [incIfFalling_ie]
@[simp] theorem writeTac_lcd (s : State) (v : Byte) : (writeTac s v).lcd = s.lcd := by
  unfold writeTac; simp only [incIfFalling_lcd]
@[simp] theorem writeTac_joypad (s : State) (v : Byte) : (writeTac s v).joypad = s.joypad := by
  unfold writeTac; simp only [incIfFalling_joypad]
@[simp] theorem writeTac_platform (s : State) (v : Byte) : (writeTac s v).platform = s.platform := by
  unfold writeTac; simp only [incIfFalling_platform]

@[simp] theorem writeTimerReg_params (s : State) (r : TimerReg) (v : Byte) : (writeTimerReg s r v).params = s.params := by
  cases r <;> simp only [writeTimerReg, writeDiv_params, writeTac_params]
@[simp] theorem writeTimerReg_cyc (s : State) (r : TimerReg) (v : Byte) : (writeTimerReg s r v).cyc = s.cyc := by
  cases r <;> simp only [writeTimerReg, writeDiv_cyc, writeTac_cyc]
@[simp] theorem writeTimerReg_fault (s : State) (r : TimerReg) (v : Byte) : (writeTimerReg s r v).fault = s.fault := by
  cases r <;> simp only [writeTimerReg, writeDiv_fault, writeTac_fault]
@[simp] theorem writeTimerReg_regs (s : State) (r : TimerReg) (v : Byte) : (writeTimerReg s r v).cpu.regs = s.cpu.regs := by
  cases r <;> simp only [writeTimerReg, writeDiv_regs, writeTac_regs]
@[simp] theorem writeTimerReg_pc (s : State) (r : TimerReg) (v : Byte) : (writeTimerReg s r v).cpu.pc = s.cpu.pc := by
  cases r <;> simp only [writeTimerReg, writeDiv_pc, writeTac_pc]
@[simp] theorem writeTimerReg_sp (s : State) (r : TimerReg) (v : Byte) : (writeTimerReg s r v).cpu.sp = s.cpu.sp := by
  cases r <;> simp only [writeTimerReg, writeDiv_sp, writeTac_sp]
@[simp] theorem writeTimerReg_ime (s : State) (r : TimerReg) (v : Byte) : (writeTimerReg s r v).cpu.ime = s.cpu.ime := by
  cases r <;> simp only [writeTimerReg, writeDiv_ime, writeTac_ime]
@[simp] theorem writeTimerReg_next (s : State) (r : TimerReg) (v : Byte) : (writeTimerReg s r v).cpu.next = s.cpu.next := by
  cases r <;> simp only [writeTimerReg, writeDiv_next, writeTac_next]
@[simp] theorem writeTimerReg_ie (s : State) (r : TimerReg) (v : Byte) : (writeTimerReg s r v).cpu.ie = s.cpu.ie := by
  cases r <;> simp only [writeTimerReg, writeDiv_ie, writeTac_ie]
@[simp] theorem writeTimerReg_lcd (s : State) (r : TimerReg) (v : Byte) : (writeTimerReg s r v).lcd = s.lcd := by
  cases r <;> simp only [writeTimerReg, writeDiv_lcd, writeTac_lcd]
@[simp] theorem writeTimerReg_joypad (s : State) (r : TimerReg) (v : Byte) : (writeTimerReg s r v).joypad = s.joypad := by
  cases r <;> simp only [writeTimerReg, writeDiv_joypad, writeTac_joypad]
@[simp] theorem writeTimerReg_platform (s : State) (r : TimerReg) (v : Byte) : (writeTimerReg s r v).platform = s.platform := by
  cases r <;> simp only [writeTimerReg, writeDiv_platform, writeTac_platform]

@[simp] theorem timerWrite_params (s : State) (a : Addr) (v : Byte) : (timerWrite s a v).params = s.params := by
  unfold timerWrite; split <;> simp only [writeTimerReg_params]
@[simp] theorem timerWrite_cyc (s : State) (a : Addr) (v : Byte) : (timerWrite s a v).cyc = s.cyc := by
  unfold timerWrite; split <;> simp only [writeTimerReg_cyc]
@[simp] theorem timerWrite_fault (s : State) (a : Addr) (v : Byte) : (timerWrite s a v).fault = s.fault := by
  unfold timerWrite; split <;> simp only [writeTimerReg_fault]
@[simp] theorem timerWrite_regs (s : State) (a : Addr) (v : Byte) : (timerWrite s a v).cpu.regs = s.cpu.regs := by
  unfold timerWrite; split <;> simp only [writeTimerReg_regs]
@[simp] theorem timerWrite_pc (s : State) (a : Addr) (v : Byte) : (timerWrite s a v).cpu.pc = s.cpu.pc := by
  unfold timerWrite; split <;> simp only [writeTimerReg_pc]
@[simp] theorem timerWrite_sp (s : State) (a : Addr) (v : Byte) : (timerWrite s a v).cpu.sp = s.cpu.sp := by
  unfold timerWrite; split <;> simp only [writeTimerReg_sp]
@[simp] theorem timerWrite_ime (s : State) (a : Addr) (v : Byte) : (timerWrite s a v).cpu.ime = s.cpu.ime := by
  unfold timerWrite; split <;> simp only [writeTimerReg_ime]
@[simp] theorem timerWrite_next (s : State) (a : Addr) (v : Byte) : (timerWrite s a v).cpu.next = s.cpu.next := by
  unfold timerWrite; split <;> simp only [writeTimerReg_next]
@[simp] theorem timerWrite_ie (s : State) (a : Addr) (v : Byte) : (timerWrite s a v).cpu.ie = s.cpu.ie := by
  unfold timerWrite; split <;> simp only [writeTimerReg_ie]
@[simp] theorem timerWrite_lcd (s : State) (a : Addr) (v : Byte) : (timerWrite s a v).lcd = s.lcd := by
  unfold timerWrite; split <;> simp only [writeTimerReg_lcd]
@[simp] theorem timerWrite_joypad (s : State) (a : Addr) (v : Byte) : (timerWrite s a v).joypad = s.joypad := by
  unfold timerWrite; split <;> simp only [writeTimerReg_joypad]
@[simp] theorem timerWrite_platform (s : State) (a : Addr) (v : Byte) : (timerWrite s a v).platform = s.platform := by
  unfold timerWrite; split <;> simp only [writeTimerReg_platform]

/-! LCD controller. -/

@[simp] theorem compareLy_params (s : State) : (compareLy s).params = s.params := by
  unfold compareLy; simp only [requestIf_params]
@[simp] theorem compareLy_cyc (s : State) : (compareLy s).cyc = s.cyc := by
  unfold compareLy; simp only [requestIf_cyc]
@[simp] theorem compareLy_fault (s : State) : (compareLy s).fault = s.fault := by
  unfold compareLy; simp only [requestIf_fault]
@[simp] theorem compareLy_regs (s : State) : (compareLy s).cpu.regs = s.cpu.regs := by
  unfold compareLy; simp only [requestIf_regs]
@[simp] theorem compareLy_pc (s : State) : (compareLy s).cpu.pc = s.cpu.pc := by
  unfold compareLy; simp only [requestIf_pc]
@[simp] theorem compareLy_sp (s : State) : (compareLy s).cpu.sp = s.cpu.sp := by
  unfold compareLy; simp only [requestIf_sp]
@[simp] theorem compareLy_ime (s : State) : (compareLy s).cpu.ime = s.cpu.ime := by
  unfold compareLy; simp only [requestIf_ime]
@[simp] theorem compareLy_next (s : State) : (compareLy s).cpu.next = s.cpu.next := by
  unfold compareLy; simp only [requestIf_next]
@[simp] theorem compareLy_ie (s : State) : (compareLy s).cpu.ie = s.cpu.ie := by
  unfold compareLy; simp only [requestIf_ie]
@[simp] theorem compareLy_timer (s : State) : (compareLy s).timer = s.timer := by
  unfold compareLy; simp only [requestIf_timer]
@[simp] theorem compareLy_joypad (s : State) : (compareLy s).joypad = s.joypad := by
  unfold compareLy; simp only [requestIf_joypad]
@[simp] theorem compareLy_platform (s : State) : (compareLy s).platform = s.platform := by
  unfold compareLy; simp only [requestIf_platform]

@[simp] theorem setLy_params (s : State) (v : Byte) : (setLy v s).params = s.params := by
  unfold setLy; simp only [compareLy_params]
@[simp] theorem setLy_cyc (s : State) (v : Byte) : (setLy v s).cyc = s.cyc := by
  unfold setLy; simp only [compareLy_cyc]
@[simp] theorem setLy_fault (s : State) (v : Byte) : (setLy v s).fault = s.fault := by
  unfold setLy; simp only [compareLy_fault]
@[simp] theorem setLy_regs (s : State) (v : Byte) : (setLy v s).cpu.regs = s.cpu.regs := by
  unfold setLy; simp only [compareLy_regs]
@[simp] theorem setLy_pc (s : State) (v : Byte) : (setLy v s).cpu.pc = s.cpu.pc := by
  unfold setLy; simp only [compareLy_pc]
@[simp] theorem setLy_sp (s : State) (v : Byte) : (setLy v s).cpu.sp = s.cpu.sp := by
  unfold setLy; simp only [compareLy_sp]
@[simp] theorem setLy_ime (s : State) (v : Byte) : (setLy v s).cpu.ime = s.cpu.ime := by
  unfold setLy; simp only [compareLy_ime]
@[simp] theorem setLy_next (s : State) (v : Byte) : (setLy v s).cpu.next = s.cpu.next := by
  unfold setLy; simp only [compareLy_next]
@[simp] theorem setLy_ie (s : State) (v : Byte) : (setLy v s).cpu.ie = s.cpu.ie := by
  unfold setLy; simp only [compareLy_ie]
@[simp] theorem setLy_timer (s : State) (v : Byte) : (setLy v s).timer = s.timer := by
  unfold setLy; simp only [compareLy_timer]
@[simp] theorem setLy_joypad (s : State) (v : Byte) : (setLy v s).joypad = s.joypad := by
  unfold setLy; simp only [compareLy_joypad]
@[simp] theorem setLy_platform (s : State) (v : Byte) : (setLy v s).platform = s.platform := by
  unfold setLy; simp only [compareLy_platform]

@[simp] theorem enterMode_params (s : State) (m : Mode) : (enterMode m s).params = s.params := by
  unfold enterMode; simp only [requestIf_params]
@[simp] theorem enterMode_cyc (s : State) (m : Mode) : (enterMode m s).cyc = s.cyc := by
  unfold enterMode; simp only [requestIf_cyc]
@[simp] theorem enterMode_fault (s : State) (m : Mode) : (enterMode m s).fault = s.fault := by
  unfold enterMode; simp only [requestIf_fault]
@[simp] theorem enterMode_regs (s : State) (m : Mode) : (enterMode m s).cpu.regs = s.cpu.regs := by
  unfold enterMode; simp only [requestIf_regs]
@[simp] theorem enterMode_pc (s : State) (m : Mode) : (enterMode m s).cpu.pc = s.cpu.pc := by
  unfold enterMode; simp only [requestIf_pc]
@[simp] theorem enterMode_sp (s : State) (m : Mode) : (enterMode m s).cpu.sp = s.cpu.sp := by
  unfold enterMode; simp only [requestIf_sp]
@[simp] theorem enterMode_ime (s : State) (m : Mode) : (enterMode m s).cpu.ime = s.cpu.ime := by
  unfold enterMode; simp only [requestIf_ime]
@[simp] theorem enterMode_next (s : State) (m : Mode) : (enterMode m s).cpu.next = s.cpu.next := by
  unfold enterMode; simp only [requestIf_next]
@[simp] theorem enterMode_ie (s : State) (m : Mode) : (enterMode m s).cpu.ie = s.cpu.ie := by
  unfold enterMode; simp only [requestIf_ie]
@[simp] theorem enterMode_timer (s : State) (m : Mode) : (enterMode m s).timer = s.timer := by
  unfold enterMode; simp only [requestIf_timer]
@[simp] theorem enterMode_joypad (s : State) (m : Mode) : (enterMode m s).joypad = s.joypad := by
  unfold enterMode; simp only [requestIf_joypad]
@[simp] theorem enterMode_platform (s : State) (m : Mode) : (enterMode m s).platform = s.platform := by
  unfold enterMode; simp only [requestIf_platform]

@[simp] theorem lcdDisable_params (s : State) : (lcdDisable s).params = s.params := by
  unfold lcdDisable; simp only [setLy_params]
@[simp] theorem lcdDisable_cyc (s : State) : (lcdDisable s).cyc = s.cyc := by
  unfold lcdDisable; simp only [setLy_cyc]
@[simp] theorem lcdDisable_fault (s : State) : (lcdDisable s).fault = s.fault := by
  unfold lcdDisable; simp only [setLy_fault]
@[simp] theorem lcdDisable_regs (s : State) : (lcdDisable s).cpu.regs = s.cpu.regs := by
  unfold lcdDisable; simp only [setLy_regs]
@[simp] theorem lcdDisable_pc (s : State) : (lcdDisable s).cpu.pc = s.cpu.pc := by
  unfold lcdDisable; simp only [setLy_pc]
@[simp] theorem lcdDisable_sp (s : State) : (lcdDisable s).cpu.sp = s.cpu.sp := by
  unfold lcdDisable; simp only [setLy_sp]
@[simp] theorem lcdDisable_ime (s : State) : (lcdDisable s).cpu.ime = s.cpu.ime := by
  unfold lcdDisable; simp only [setLy_ime]
@[simp] theorem lcdDisable_next (s : State) : (lcdDisable s).cpu.next = s.cpu.next := by
  unfold lcdDisable; simp only [setLy_next]
@[simp] theorem lcdDisable_ie (s : State) : (lcdDisable s).cpu.ie = s.cpu.ie := by
  unfold lcdDisable; simp only [setLy_ie]
@[simp] theorem lcdDisable_timer (s : State) : (lcdDisable s).timer = s.timer := by
  unfold lcdDisable; simp only [setLy_timer]
@[simp] theorem lcdDisable_joypad (s : State) : (lcdDisable s).joypad = s.joypad := by
  unfold lcdDisable; simp only [setLy_joypad]
@[simp] theorem lcdDisable_platform (s : State) : (lcdDisable s).platform = s.platform := by
  unfold lcdDisable; simp only [setLy_platform]

@[simp] theorem writeLcdc_params (s : State) (v : Byte) : (writeLcdc s v).params = s.params := by
  unfold writeLcdc; dsimp only; split <;> simp only [lcdDisable_params]
@[simp] theorem writeLcdc_cyc (s : State) (v : Byte) : (writeLcdc s v).cyc = s.cyc := by
  unfold writeLcdc; dsimp only; split <;> simp only [lcdDisable_cyc]
@[simp] theorem writeLcdc_fault (s : State) (v : Byte) : (writeLcdc s v).fault = s.fault := by
  unfold writeLcdc; dsimp only; split <;> simp only [lcdDisable_fault]
@[simp] theorem writeLcdc_regs (s : State) (v : Byte) : (writeLcdc s v).cpu.regs = s.cpu.regs := by
  unfold writeLcdc; dsimp only; split <;> simp only [lcdDisable_regs]
@[simp] theorem writeLcdc_pc (s : State) (v : Byte) : (writeLcdc s v).cpu.pc = s.cpu.pc := by
  unfold writeLcdc; dsimp only; split <;> simp only [lcdDisable_pc]
@[simp] theorem writeLcdc_sp (s : State) (v : Byte) : (writeLcdc s v).cpu.sp = s.cpu.sp := by
  unfold writeLcdc; dsimp only; split <;> simp only [lcdDisable_sp]
@[simp] theorem writeLcdc_ime (s : State) (v : Byte) : (writeLcdc s v).cpu.ime = s.cpu.ime := by
  unfold writeLcdc; dsimp only; split <;> simp only [lcdDisable_ime]
@[simp] theorem writeLcdc_next (s : State) (v : Byte) : (writeLcdc s v).cpu.next = s.cpu.next := by
  unfold writeLcdc; dsimp only; split <;> simp only [lcdDisable_next]
@[simp] theorem writeLcdc_ie (s : State) (v : Byte) : (writeLcdc s v).cpu.ie = s.cpu.ie := by
  unfold writeLcdc; dsimp only; split <;> simp only [lcdDisable_ie]
@[simp] theorem writeLcdc_timer (s : State) (v : Byte) : (writeLcdc s v).timer = s.timer := by
  unfold writeLcdc; dsimp only; split <;> simp only [lcdDisable_timer]
@[simp] theorem writeLcdc_joypad (s : State) (v : Byte) : (writeLcdc s v).joypad = s.joypad := by
  unfold writeLcdc; dsimp only; split <;> simp only [lcdDisable_joypad]
@[simp] theorem writeLcdc_platform (s : State) (v : Byte) : (writeLcdc s v).platform = s.platform := by
  unfold writeLcdc; dsimp only; split <;> simp only [lcdDisable_platform]

@[simp] theorem writeStat_params (s : State) (v : Byte) : (writeStat s v).params = s.params := by
  rfl
@[simp] theorem writeStat_cyc (s : State) (v : Byte) : (writeStat s v).cyc = s.cyc := by
  rfl
@[simp] theorem writeStat_fault (s : State) (v : Byte) : (writeStat s v).fault = s.fault := by
  rfl
@[simp] theorem writeStat_regs (s : State) (v : Byte) : (writeStat s v).cpu.regs = s.cpu.regs := by
  rfl
@[simp] theorem writeStat_pc (s : State) (v : Byte) : (writeStat s v).cpu.pc = s.cpu.pc := by
  rfl
@[simp] theorem writeStat_sp (s : State) (v : Byte) : (writeStat s v).cpu.sp = s.cpu.sp := by
  rfl
@[simp] theorem writeStat_ime (s : State) (v : Byte) : (writeStat s v).cpu.ime = s.cpu.ime := by
  rfl
@[simp] theorem writeStat_next (s : State) (v : Byte) : (writeStat s v).cpu.next = s.cpu.next := by
  rfl
@[simp] theorem writeStat_ie (s : State) (v : Byte) : (writeStat s v).cpu.ie = s.cpu.ie := by
  rfl
@[simp] theorem writeStat_timer (s : State) (v : Byte) : (writeStat s v).timer = s.timer := by
  rfl
@[simp] theorem writeStat_joypad (s : State) (v : Byte) : (writeStat s v).joypad = s.joypad := by
  rfl
@[simp] theorem writeStat_platform (s : State) (v : Byte) : (writeStat s v).platform = s.platform := by
  rfl

@[simp] theorem writeLyc_params (s : State) (v : Byte) : (writeLyc s v).params = s.params := by
  unfold writeLyc; simp only [compareLy_params]
@[simp] theorem writeLyc_cyc (s : State) (v : Byte) : (writeLyc s v).cyc = s.cyc := by
  unfold writeLyc; simp only [compareLy_cyc]
@[simp] theorem writeLyc_fault (s : State) (v : Byte) : (writeLyc s v).fault = s.fault := by
  unfold writeLyc; simp only [compareLy_fault]
@[simp] theorem writeLyc_regs (s : State) (v : Byte) : (writeLyc s v).cpu.regs = s.cpu.regs := by
  unfold writeLyc; simp only [compareLy_regs]
@[simp] theorem writeLyc_pc (s : State) (v : Byte) : (writeLyc s v).cpu.pc = s.cpu.pc := by
  unfold writeLyc; simp only [compareLy_pc]
@[simp] theorem writeLyc_sp (s : State) (v : Byte) : (writeLyc s v).cpu.sp = s.cpu.sp := by
  unfold writeLyc; simp only [compareLy_sp]
@[simp] theorem writeLyc_ime (s : State) (v : Byte) : (writeLyc s v).cpu.ime = s.cpu.ime := by
  unfold writeLyc; simp only [compareLy_ime]
@[simp] theorem writeLyc_next (s : State) (v : Byte) : (writeLyc s v).cpu.next = s.cpu.next := by
  unfold writeLyc; simp only [compareLy_next]
@[simp] theorem writeLyc_ie (s : State) (v : Byte) : (writeLyc s v).cpu.ie = s.cpu.ie := by
  unfold writeLyc; simp only [compareLy_ie]
@[simp] theorem writeLyc_timer (s : State) (v : Byte) : (writeLyc s v).timer = s.timer := by
  unfold writeLyc; simp only [compareLy_timer]
@[simp] theorem writeLyc_joypad (s : State) (v : Byte) : (writeLyc s v).joypad = s.joypad := by
  unfold writeLyc; simp only [compareLy_joypad]
@[simp] theorem writeLyc_platform (s : State) (v : Byte) : (writeLyc s v).platform = s.platform := by
  unfold writeLyc; simp only [compareLy_platform]

@[simp] theorem writeDma_params (s : State) (v : Byte) : (writeDma s v).params = s.params := by
  rfl
@[simp] theorem writeDma_cyc (s : State) (v : Byte) : (writeDma s v).cyc = s.cyc := by
  rfl
@[simp] theorem writeDma_fault (s : State) (v : Byte) : (writeDma s v).fault = s.fault := by
  rfl
@[simp] theorem writeDma_regs (s : State) (v : Byte) : (writeDma s v).cpu.regs = s.cpu.regs := by
  rfl
@[simp] theorem writeDma_pc (s : State) (v : Byte) : (writeDma s v).cpu.pc = s.cpu.pc := by
  rfl
@[simp] theorem writeDma_sp (s : State) (v : Byte) : (writeDma s v).cpu.sp = s.cpu.sp := by
  rfl
@[simp] theorem writeDma_ime (s : State) (v : Byte) : (writeDma s v).cpu.ime = s.cpu.ime := by
  rfl
@[simp] theorem writeDma_next (s : State) (v : Byte) : (writeDma s v).cpu.next = s.cpu.next := by
  rfl
@[simp] theorem writeDma_ie (s : State) (v : Byte) : (writeDma s v).cpu.ie = s.cpu.ie := by
  rfl
@[simp] theorem writeDma_timer (s : State) (v : Byte) : (writeDma s v).timer = s.timer := by
  rfl
@[simp] theorem writeDma_joypad (s : State) (v : Byte) : (writeDma s v).joypad = s.joypad := by
  rfl
@[simp] theorem writeDma_platform (s : State) (v : Byte) : (writeDma s v).platform = s.platform := by
  rfl

@[simp] theorem writeLcdReg_params (s : State) (r : LcdReg) (v : Byte) : (writeLcdReg s r v).params = s.params := by
  cases r <;> simp only [writeLcdReg, writeLcdc_params, writeStat_params, writeLyc_params, writeDma_params]
@[simp] theorem writeLcdReg_cyc (s : State) (r : LcdReg) (v : Byte) : (writeLcdReg s r v).cyc = s.cyc := by
  cases r <;> simp only [writeLcdReg, writeLcdc_cyc, writeStat_cyc, writeLyc_cyc, writeDma_cyc]
@[simp] theorem writeLcdReg_fault (s : State) (r : LcdReg) (v : Byte) : (writeLcdReg s r v).fault = s.fault := by
  cases r <;> simp only [writeLcdReg, writeLcdc_fault, writeStat_fault, writeLyc_fault, writeDma_fault]
@[simp] theorem writeLcdReg_regs (s : State) (r : LcdReg) (v : Byte) : (writeLcdReg s r v).cpu.regs = s.cpu.regs := by
  cases r <;> simp only [writeLcdReg, writeLcdc_regs, writeStat_regs, writeLyc_regs, writeDma_regs]
@[simp] theorem writeLcdReg_pc (s : State) (r : LcdReg) (v : Byte) : (writeLcdReg s r v).cpu.pc = s.cpu.pc := by
  cases r <;> simp only [writeLcdReg, writeLcdc_pc, writeStat_pc, writeLyc_pc, writeDma_pc]
@[simp] theorem writeLcdReg_sp (s : State) (r : LcdReg) (v : Byte) : (writeLcdReg s r v).cpu.sp = s.cpu.sp := by
  cases r <;> simp only [writeLcdReg, writeLcdc_sp, writeStat_sp, writeLyc_sp, writeDma_sp]
@[simp] theorem writeLcdReg_ime (s : State) (r : LcdReg) (v : Byte) : (writeLcdReg s r v).cpu.ime = s.cpu.ime := by
  cases r <;> simp only [writeLcdReg, writeLcdc_ime, writeStat_ime, writeLyc_ime, writeDma_ime]
@[simp] theorem writeLcdReg_next (s : State) (r : LcdReg) (v : Byte) : (writeLcdReg s r v).cpu.next = s.cpu.next := by
  cases r <;> simp only [writeLcdReg, writeLcdc_next, writeStat_next, writeLyc_next, writeDma_next]
@[simp] theorem writeLcdReg_ie (s : State) (r : LcdReg) (v : Byte) : (writeLcdReg s r v).cpu.ie = s.cpu.ie := by
  cases r <;> simp only [writeLcdReg, writeLcdc_ie, writeStat_ie, writeLyc_ie, writeDma_ie]
@[simp] theorem writeLcdReg_timer (s : State) (r : LcdReg) (v : Byte) : (writeLcdReg s r v).timer = s.timer := by
  cases r <;> simp only [writeLcdReg, writeLcdc_timer, writeStat_timer, writeLyc_timer, writeDma_timer]
@[simp] theorem writeLcdReg_joypad (s : State) (r : LcdReg) (v : Byte) : (writeLcdReg s r v).joypad = s.joypad := by
  cases r <;> simp only [writeLcdReg, writeLcdc_joypad, writeStat_joypad, writeLyc_joypad, writeDma_joypad]
@[simp] theorem writeLcdReg_platform (s : State) (r : LcdReg) (v : Byte) : (writeLcdReg s r v).platform = s.platform := by
  cases r <;> simp only [writeLcdReg, writeLcdc_platform, writeStat_platform, writeLyc_platform, writeDma_platform]

@[simp] theorem lcdWrite_params (s : State) (a : Addr) (v : Byte) : (lcdWrite s a v).params = s.params := by
  unfold lcdWrite; repeat (first | rfl | split | simp only [writeLcdReg_params])
@[simp] theorem lcdWrite_cyc (s : State) (a : Addr) (v : Byte) : (lcdWrite s a v).cyc = s.cyc := by
  unfold lcdWrite; repeat (first | rfl | split | simp only [writeLcdReg_cyc])
@[simp] theorem lcdWrite_fault (s : State) (a : Addr) (v : Byte) : (lcdWrite s a v).fault = s.fault := by
  unfold lcdWrite; repeat (first | rfl | split | simp only [writeLcdReg_fault])
@[simp] theorem lcdWrite_regs (s : State) (a : Addr) (v : Byte) : (lcdWrite s a v).cpu.regs = s.cpu.regs := by
  unfold lcdWrite; repeat (first | rfl | split | simp only [writeLcdReg_regs])
@[simp] theorem lcdWrite_pc (s : State) (a : Addr) (v : Byte) : (lcdWrite s a v).cpu.pc = s.cpu.pc := by
  unfold lcdWrite; repeat (first | rfl | split | simp only [writeLcdReg_pc])
@[simp] theorem lcdWrite_sp (s : State) (a : Addr) (v : Byte) : (lcdWrite s a v).cpu.sp = s.cpu.sp := by
  unfold lcdWrite; repeat (first | rfl | split | simp only [writeLcdReg_sp])
@[simp] theorem lcdWrite_ime (s : State) (a : Addr) (v : Byte) : (lcdWrite s a v).cpu.ime = s.cpu.ime := by
  unfold lcdWrite; repeat (first | rfl | split | simp only [writeLcdReg_ime])
@[simp] theorem lcdWrite_next (s : State) (a : Addr) (v : Byte) : (lcdWrite s a v).cpu.next = s.cpu.next := by
  unfold lcdWrite; repeat (first | rfl | split | simp only [writeLcdReg_next])
@[simp] theorem lcdWrite_ie (s : State) (a : Addr) (v : Byte) : (lcdWrite s a v).cpu.ie = s.cpu.ie := by
  unfold lcdWrite; repeat (first | rfl | split | simp only [writeLcdReg_ie])
@[simp] theorem lcdWrite_timer (s : State) (a : Addr) (v : Byte) : (lcdWrite s a v).timer = s.timer := by
  unfold lcdWrite; repeat (first | rfl | split | simp only [writeLcdReg_timer])
@[simp] theorem lcdWrite_joypad (s : State) (a : Addr) (v : Byte) : (lcdWrite s a v).joypad = s.joypad := by
  unfold lcdWrite; repeat (first | rfl | split | simp only [writeLcdReg_joypad])
@[simp] theorem lcdWrite_platform (s : State) (a : Addr) (v : Byte) : (lcdWrite s a v).platform = s.platform := by
  unfold lcdWrite; repeat (first | rfl | split | simp only [writeLcdReg_platform])

@[simp] theorem lcdSchedule_params (s : State) (k : Nat) : (lcdSchedule k s).params = s.params := by
  rfl
@[simp] theorem lcdSchedule_cyc (s : State) (k : Nat) : (lcdSchedule k s).cyc = s.cyc := by
  rfl
@[simp] theorem lcdSchedule_fault (s : State) (k : Nat) : (lcdSchedule k s).fault = s.fault := by
  rfl
@[simp] theorem lcdSchedule_regs (s : State) (k : Nat) : (lcdSchedule k s).cpu.regs = s.cpu.regs := by
  rfl
@[simp] theorem lcdSchedule_pc (s : State) (k : Nat) : (lcdSchedule k s).cpu.pc = s.cpu.pc := by
  rfl
@[simp] theorem lcdSchedule_sp (s : State) (k : Nat) : (lcdSchedule k s).cpu.sp = s.cpu.sp := by
  rfl
@[simp] theorem lcdSchedule_ime (s : State) (k : Nat) : (lcdSchedule k s).cpu.ime = s.cpu.ime := by
  rfl
@[simp] theorem lcdSchedule_next (s : State) (k : Nat) : (lcdSchedule k s).cpu.next = s.cpu.next := by
  rfl
@[simp] theorem lcdSchedule_ie (s : State) (k : Nat) : (lcdSchedule k s).cpu.ie = s.cpu.ie := by
  rfl
@[simp] theorem lcdSchedule_timer (s : State) (k : Nat) : (lcdSchedule k s).timer = s.timer := by
  rfl
@[simp] theorem lcdSchedule_joypad (s : State) (k : Nat) : (lcdSchedule k s).joypad = s.joypad := by
  rfl
@[simp] theorem lcdSchedule_platform (s : State) (k : Nat) : (lcdSchedule k s).platform = s.platform := by
  rfl

@[simp] theorem freshFrame_params (s : State) : (freshFrame s).params = s.params := by
  rfl
@[simp] theorem freshFrame_cyc (s : State) : (freshFrame s).cyc = s.cyc := by
  rfl
@[simp] theorem freshFrame_fault (s : State) : (freshFrame s).fault = s.fault := by
  rfl
@[simp] theorem freshFrame_regs (s : State) : (freshFrame s).cpu.regs = s.cpu.regs := by
  rfl
@[simp] theorem freshFrame_pc (s : State) : (freshFrame s).cpu.pc = s.cpu.pc := by
  rfl
@[simp] theorem freshFrame_sp (s : State) : (freshFrame s).cpu.sp = s.cpu.sp := by
  rfl
@[simp] theorem freshFrame_ime (s : State) : (freshFrame s).cpu.ime = s.cpu.ime := by
  rfl
@[simp] theorem freshFrame_next (s : State) : (freshFrame s).cpu.next = s.cpu.next := by
  rfl
@[simp] theorem freshFrame_ie (s : State) : (freshFrame s).cpu.ie = s.cpu.ie := by
  rfl
@[simp] theorem freshFrame_timer (s : State) : (freshFrame s).timer = s.timer := by
  rfl
@[simp] theorem freshFrame_joypad (s : State) : (freshFrame s).joypad = s.joypad := by
  rfl
@[simp] theorem freshFrame_platform (s : State) : (freshFrame s).platform = s.platform := by
  rfl

@[simp] theorem lcdEnable_params (s : State) : (lcdEnable s).params = s.params := by
  unfold lcdEnable; simp only [lcdSchedule_params, enterMode_params, freshFrame_params]
@[simp] theorem lcdEnable_cyc (s : State) : (lcdEnable s).cyc = s.cyc := by
  unfold lcdEnable; simp only [lcdSchedule_cyc, enterMode_cyc, freshFrame_cyc]
@[simp] theorem lcdEnable_fault (s : State) : (lcdEnable s).fault = s.fault := by
  unfold lcdEnable; simp only [lcdSchedule_fault, enterMode_fault, freshFrame_fault]
@[simp] theorem lcdEnable_regs (s : State) : (lcdEnable s).cpu.regs = s.cpu.regs := by
  unfold lcdEnable; simp only [lcdSchedule_regs, enterMode_regs, freshFrame_regs]
@[simp] theorem lcdEnable_pc (s : State) : (lcdEnable s).cpu.pc = s.cpu.pc := by
  unfold lcdEnable; simp only [lcdSchedule_pc, enterMode_pc, freshFrame_pc]
@[simp] theorem lcdEnable_sp (s : State) : (lcdEnable s).cpu.sp = s.cpu.sp := by
  unfold lcdEnable; simp only [lcdSchedule_sp, enterMode_sp, freshFrame_sp]
@[simp] theorem lcdEnable_ime (s : State) : (lcdEnable s).cpu.ime = s.cpu.ime := by
  unfold lcdEnable; simp only [lcdSchedule_ime, enterMode_ime, freshFrame_ime]
@[simp] theorem lcdEnable_next (s : State) : (lcdEnable s).cpu.next = s.cpu.next := by
  unfold lcdEnable; simp only [lcdSchedule_next, enterMode_next, freshFrame_next]
@[simp] theorem lcdEnable_ie (s : State) : (lcdEnable s).cpu.ie = s.cpu.ie := by
  unfold lcdEnable; simp only [lcdSchedule_ie, enterMode_ie, freshFrame_ie]
@[simp] theorem lcdEnable_timer (s : State) : (lcdEnable s).timer = s.timer := by
  unfold lcdEnable; simp only [lcdSchedule_timer, enterMode_timer, freshFrame_timer]
@[simp] theorem lcdEnable_joypad (s : State) : (lcdEnable s).joypad = s.joypad := by
  unfold lcdEnable; simp only [lcdSchedule_joypad, enterMode_joypad, freshFrame_joypad]
@[simp] theorem lcdEnable_platform (s : State) : (lcdEnable s).platform = s.platform := by
  unfold lcdEnable; simp only [lcdSchedule_platform, enterMode_platform, freshFrame_platform]

@[simp] theorem drawLine_params (s : State) : (drawLine s).params = s.params := by
  rfl
@[simp] theorem drawLine_cyc (s : State) : (drawLine s).cyc = s.cyc := by
  rfl
@[simp] theorem drawLine_fault (s : State) : (drawLine s).fault = s.fault := by
  rfl
@[simp] theorem drawLine_regs (s : State) : (drawLine s).cpu.regs = s.cpu.regs := by
  rfl
@[simp] theorem drawLine_pc (s : State) : (drawLine s).cpu.pc = s.cpu.pc := by
  rfl
@[simp] theorem drawLine_sp (s : State) : (drawLine s).cpu.sp = s.cpu.sp := by
  rfl
@[simp] theorem drawLine_ime (s : State) : (drawLine s).cpu.ime = s.cpu.ime := by
  rfl
@[simp] theorem drawLine_next (s : State) : (drawLine s).cpu.next = s.cpu.next := by
  rfl
@[simp] theorem drawLine_ie (s : State) : (drawLine s).cpu.ie = s.cpu.ie := by
  rfl
@[simp] theorem drawLine_timer (s : State) : (drawLine s).timer = s.timer := by
  rfl
@[simp] theorem drawLine_joypad (s : State) : (drawLine s).joypad = s.joypad := by
  rfl
@[simp] theorem drawLine_platform (s : State) : (drawLine s).platform = s.platform := by
  rfl

@[simp] theorem publish_params (s : State) : (publish s).params = s.params := by
  rfl
@[simp] theorem publish_cyc (s : State) : (publish s).cyc = s.cyc := by
  rfl
@[simp] theorem publish_fault (s : State) : (publish s).fault = s.fault := by
  rfl
@[simp] theorem publish_regs (s : State) : (publish s).cpu.regs = s.cpu.regs := by
  rfl
@[simp] theorem publish_pc (s : State) : (publish s).cpu.pc = s.cpu.pc := by
  rfl
@[simp] theorem publish_sp (s : State) : (publish s).cpu.sp = s.cpu.sp := by
  rfl
@[simp] theorem publish_ime (s : State) : (publish s).cpu.ime = s.cpu.ime := by
  rfl
@[simp] theorem publish_next (s : State) : (publish s).cpu.next = s.cpu.next := by
  rfl
@[simp] theorem publish_ie (s : State) : (publish s).cpu.ie = s.cpu.ie := by
  rfl
@[simp] theorem publish_timer (s : State) : (publish s).timer = s.timer := by
  rfl
@[simp] theorem publish_joypad (s : State) : (publish s).joypad = s.joypad := by
  rfl
@[simp] theorem publish_platform (s : State) : (publish s).platform = s.platform := by
  rfl

@[simp] theorem lcdActM0_params (s : State) : (lcdActM0 s).params = s.params := by
  unfold lcdActM0; dsimp only; split <;> simp only [lcdSchedule_params, publish_params, enterMode_params, setLy_params]
@[simp] theorem lcdActM0_cyc (s : State) : (lcdActM0 s).cyc = s.cyc := by
  unfold lcdActM0; dsimp only; split <;> simp only [lcdSchedule_cyc, publish_cyc, enterMode_cyc, setLy_cyc]
@[simp] theorem lcdActM0_fault (s : State) : (lcdActM0 s).fault = s.fault := by
  unfold lcdActM0; dsimp only; split <;> simp only [lcdSchedule_fault, publish_fault, enterMode_fault, setLy_fault]
@[simp] theorem lcdActM0_regs (s : State) : (lcdActM0 s).cpu.regs = s.cpu.regs := by
  unfold lcdActM0; dsimp only; split <;> simp only [lcdSchedule_regs, publish_regs, enterMode_regs, setLy_regs]
@[simp] theorem lcdActM0_pc (s : State) : (lcdActM0 s).cpu.pc = s.cpu.pc := by
  unfold lcdActM0; dsimp only; split <;> simp only [lcdSchedule_pc, publish_pc, enterMode_pc, setLy_pc]
@[simp] theorem lcdActM0_sp (s : State) : (lcdActM0 s).cpu.sp = s.cpu.sp := by
  unfold lcdActM0; dsimp only; split <;> simp only [lcdSchedule_sp, publish_sp, enterMode_sp, setLy_sp]
@[simp] theorem lcdActM0_ime (s : State) : (lcdActM0 s).cpu.ime = s.cpu.ime := by
  unfold lcdActM0; dsimp only; split <;> simp only [lcdSchedule_ime, publish_ime, enterMode_ime, setLy_ime]
@[simp] theorem lcdActM0_next (s : State) : (lcdActM0 s).cpu.next = s.cpu.next := by
  unfold lcdActM0; dsimp only; split <;> simp only [lcdSchedule_next, publish_next, enterMode_next, setLy_next]
@[simp] theorem lcdActM0_ie (s : State) : (lcdActM0 s).cpu.ie = s.cpu.ie := by
  unfold lcdActM0; dsimp only; split <;> simp only [lcdSchedule_ie, publish_ie, enterMode_ie, setLy_ie]
@[simp] theorem lcdActM0_timer (s : State) : (lcdActM0 s).timer = s.timer := by
  unfold lcdActM0; dsimp only; split <;> simp only [lcdSchedule_timer, publish_timer, enterMode_timer, setLy_timer]
@[simp] theorem lcdActM0_joypad (s : State) : (lcdActM0 s).joypad = s.joypad := by
  unfold lcdActM0; dsimp only; split <;> simp only [lcdSchedule_joypad, publish_joypad, enterMode_joypad, setLy_joypad]
@[simp] theorem lcdActM0_platform (s : State) : (lcdActM0 s).platform = s.platform := by
  unfold lcdActM0; dsimp only; split <;> simp only [lcdSchedule_platform, publish_platform, enterMode_platform, setLy_platform]

@[simp] theorem lcdActM1_params (s : State) : (lcdActM1 s).params = s.params := by
  unfold lcdActM1; split <;> simp only [lcdSchedule_params, freshFrame_params, enterMode_params, setLy_params]
@[simp] theorem lcdActM1_cyc (s : State) : (lcdActM1 s).cyc = s.cyc := by
  unfold lcdActM1; split <;> simp only [lcdSchedule_cyc, freshFrame_cyc, enterMode_cyc, setLy_cyc]
@[simp] theorem lcdActM1_fault (s : State) : (lcdActM1 s).fault = s.fault := by
  unfold lcdActM1; split <;> simp only [lcdSchedule_fault, freshFrame_fault, enterMode_fault, setLy_fault]
@[simp] theorem lcdActM1_regs (s : State) : (lcdActM1 s).cpu.regs = s.cpu.regs := by
  unfold lcdActM1; split <;> simp only [lcdSchedule_regs, freshFrame_regs, enterMode_regs, setLy_regs]
@[simp] theorem lcdActM1_pc (s : State) : (lcdActM1 s).cpu.pc = s.cpu.pc := by
  unfold lcdActM1; split <;> simp only [lcdSchedule_pc, freshFrame_pc, enterMode_pc, setLy_pc]
@[simp] theorem lcdActM1_sp (s : State) : (lcdActM1 s).cpu.sp = s.cpu.sp := by
  unfold lcdActM1; split <;> simp only [lcdSchedule_sp, freshFrame_sp, enterMode_sp, setLy_sp]
@[simp] theorem lcdActM1_ime (s : State) : (lcdActM1 s).cpu.ime = s.cpu.ime := by
  unfold lcdActM1; split <;> simp only [lcdSchedule_ime, freshFrame_ime, enterMode_ime, setLy_ime]
@[simp] theorem lcdActM1_next (s : State) : (lcdActM1 s).cpu.next = s.cpu.next := by
  unfold lcdActM1; split <;> simp only [lcdSchedule_next, freshFrame_next, enterMode_next, setLy_next]
@[simp] theorem lcdActM1_ie (s : State) : (lcdActM1 s).cpu.ie = s.cpu.ie := by
  unfold lcdActM1; split <;> simp only [lcdSchedule_ie, freshFrame_ie, enterMode_ie, setLy_ie]
@[simp] theorem lcdActM1_timer (s : State) : (lcdActM1 s).timer = s.timer := by
  unfold lcdActM1; split <;> simp only [lcdSchedule_timer, freshFrame_timer, enterMode_timer, setLy_timer]
@[simp] theorem lcdActM1_joypad (s : State) : (lcdActM1 s).joypad = s.joypad := by
  unfold lcdActM1; split <;> simp only [lcdSchedule_joypad, freshFrame_joypad, enterMode_joypad, setLy_joypad]
@[simp] theorem lcdActM1_platform (s : State) : (lcdActM1 s).platform = s.platform := by
  unfold lcdActM1; split <;> simp only [lcdSchedule_platform, freshFrame_platform, enterMode_platform, setLy_platform]

@[simp] theorem lcdAct_params (s : State) : (lcdAct s).params = s.params := by
  unfold lcdAct; split <;> simp only [lcdSchedule_params, drawLine_params, enterMode_params, lcdActM0_params, lcdActM1_params]
@[simp] theorem lcdAct_cyc (s : State) : (lcdAct s).cyc = s.cyc := by
  unfold lcdAct; split <;> simp only [lcdSchedule_cyc, drawLine_cyc, enterMode_cyc, lcdActM0_cyc, lcdActM1_cyc]
@[simp] theorem lcdAct_fault (s : State) : (lcdAct s).fault = s.fault := by
  unfold lcdAct; split <;> simp only [lcdSchedule_fault, drawLine_fault, enterMode_fault, lcdActM0_fault, lcdActM1_fault]
@[simp] theorem lcdAct_regs (s : State) : (lcdAct s).cpu.regs = s.cpu.regs := by
  unfold lcdAct; split <;> simp only [lcdSchedule_regs, drawLine_regs, enterMode_regs, lcdActM0_regs, lcdActM1_regs]
@[simp] theorem lcdAct_pc (s : State) : (lcdAct s).cpu.pc = s.cpu.pc := by
  unfold lcdAct; split <;> simp only [lcdSchedule_pc, drawLine_pc, enterMode_pc, lcdActM0_pc, lcdActM1_pc]
@[simp] theorem lcdAct_sp (s : State) : (lcdAct s).cpu.sp = s.cpu.sp := by
  unfold lcdAct; split <;> simp only [lcdSchedule_sp, drawLine_sp, enterMode_sp, lcdActM0_sp, lcdActM1_sp]
@[simp] theorem lcdAct_ime (s : State) : (lcdAct s).cpu.ime = s.cpu.ime := by
  unfold lcdAct; split <;> simp only [lcdSchedule_ime, drawLine_ime, enterMode_ime, lcdActM0_ime, lcdActM1_ime]
@[simp] theorem lcdAct_next (s : State) : (lcdAct s).cpu.next = s.cpu.next := by
  unfold lcdAct; split <;> simp only [lcdSchedule_next, drawLine_next, enterMode_next, lcdActM0_next, lcdActM1_next]
@[simp] theorem lcdAct_ie (s : State) : (lcdAct s).cpu.ie = s.cpu.ie := by
  unfold lcdAct; split <;> simp only [lcdSchedule_ie, drawLine_ie, enterMode_ie, lcdActM0_ie, lcdActM1_ie]
@[simp] theorem lcdAct_timer (s : State) : (lcdAct s).timer = s.timer := by
  unfold lcdAct; split <;> simp only [lcdSchedule_timer, drawLine_timer, enterMode_timer, lcdActM0_timer, lcdActM1_timer]
@[simp] theorem lcdAct_joypad (s : State) : (lcdAct s).joypad = s.joypad := by
  unfold lcdAct; split <;> simp only [lcdSchedule_joypad, drawLine_joypad, enterMode_joypad, lcdActM0_joypad, lcdActM1_joypad]
@[simp] theorem lcdAct_platform (s : State) : (lcdAct s).platform = s.platform := by
  unfold lcdAct; split <;> simp only [lcdSchedule_platform, drawLine_platform, enterMode_platform, lcdActM0_platform, lcdActM1_platform]

@[simp] theorem dmaStep_params (s : State) : (dmaStep s).params = s.params := by
  unfold dmaStep; split <;> rfl
@[simp] theorem dmaStep_cyc (s : State) : (dmaStep s).cyc = s.cyc := by
  unfold dmaStep; split <;> rfl
@[simp] theorem dmaStep_fault (s : State) : (dmaStep s).fault = s.fault := by
  unfold dmaStep; split <;> rfl
@[simp] theorem dmaStep_regs (s : State) : (dmaStep s).cpu.regs = s.cpu.regs := by
  unfold dmaStep; split <;> rfl
@[simp] theorem dmaStep_pc (s : State) : (dmaStep s).cpu.pc = s.cpu.pc := by
  unfold dmaStep; split <;> rfl
@[simp] theorem dmaStep_sp (s : State) : (dmaStep s).cpu.sp = s.cpu.sp := by
  unfold dmaStep; split <;> rfl
@[simp] theorem dmaStep_ime (s : State) : (dmaStep s).cpu.ime = s.cpu.ime := by
  unfold dmaStep; split <;> rfl
@[simp] theorem dmaStep_next (s : State) : (dmaStep s).cpu.next = s.cpu.next := by
  unfold dmaStep; split <;> rfl
@[simp] theorem dmaStep_ie (s : State) : (dmaStep s).cpu.ie = s.cpu.ie := by
  unfold dmaStep; split <;> rfl
@[simp] theorem dmaStep_timer (s : State) : (dmaStep s).timer = s.timer := by
  unfold dmaStep; split <;> rfl
@[simp] theorem dmaStep_joypad (s : State) : (dmaStep s).joypad = s.joypad := by
  unfold dmaStep; split <;> rfl
@[simp] theorem dmaStep_platform (s : State) : (dmaStep s).platform = s.platform := by
  unfold dmaStep; split <;> rfl

@[simp] theorem lcdNotice_params (s : State) : (lcdNotice s).params = s.params := by
  unfold lcdNotice; split <;> simp only [lcdEnable_params]
@[simp] theorem lcdNotice_cyc (s : State) : (lcdNotice s).cyc = s.cyc := by
  unfold lcdNotice; split <;> simp only [lcdEnable_cyc]
@[simp] theorem lcdNotice_fault (s : State) : (lcdNotice s).fault = s.fault := by
  unfold lcdNotice; split <;> simp only [lcdEnable_fault]
@[simp] theorem lcdNotice_regs (s : State) : (lcdNotice s).cpu.regs = s.cpu.regs := by
  unfold lcdNotice; split <;> simp only [lcdEnable_regs]
@[simp] theorem lcdNotice_pc (s : State) : (lcdNotice s).cpu.pc = s.cpu.pc := by
  unfold lcdNotice; split <;> simp only [lcdEnable_pc]
@[simp] theorem lcdNotice_sp (s : State) : (lcdNotice s).cpu.sp = s.cpu.sp := by
  unfold lcdNotice; split <;> simp only [lcdEnable_sp]
@[simp] theorem lcdNotice_ime (s : State) : (lcdNotice s).cpu.ime = s.cpu.ime := by
  unfold lcdNotice; split <;> simp only [lcdEnable_ime]
@[simp] theorem lcdNotice_next (s : State) : (lcdNotice s).cpu.next = s.cpu.next := by
  unfold lcdNotice; split <;> simp only [lcdEnable_next]
@[simp] theorem lcdNotice_ie (s : State) : (lcdNotice s).cpu.ie = s.cpu.ie := by
  unfold lcdNotice; split <;> simp only [lcdEnable_ie]
@[simp] theorem lcdNotice_timer (s : State) : (lcdNotice s).timer = s.timer := by
  unfold lcdNotice; split <;> simp only [lcdEnable_timer]
@[simp] theorem lcdNotice_joypad (s : State) : (lcdNotice s).joypad = s.joypad := by
  unfold lcdNotice; split <;> simp only [lcdEnable_joypad]
@[simp] theorem lcdNotice_platform (s : State) : (lcdNotice s).platform = s.platform := by
  unfold lcdNotice; split <;> simp only [lcdEnable_platform]

@[simp] theorem lcdStep_params (s : State) : (lcdStep s).params = s.params := by
  unfold lcdStep; dsimp only; split <;> simp only [lcdAct_params, dmaStep_params, lcdNotice_params]
@[simp] theorem lcdStep_cyc (s : State) : (lcdStep s).cyc = s.cyc := by
  unfold lcdStep; dsimp only; split <;> simp only [lcdAct_cyc, dmaStep_cyc, lcdNotice_cyc]
@[simp] theorem lcdStep_fault (s : State) : (lcdStep s).fault = s.fault := by
  unfold lcdStep; dsimp only; split <;> simp only [lcdAct_fault, dmaStep_fault, lcdNotice_fault]
@[simp] theorem lcdStep_regs (s : State) : (lcdStep s).cpu.regs = s.cpu.regs := by
  unfold lcdStep; dsimp only; split <;> simp only [lcdAct_regs, dmaStep_regs, lcdNotice_regs]
@[simp] theorem lcdStep_pc (s : State) : (lcdStep s).cpu.pc = s.cpu.pc := by
  unfold lcdStep; dsimp only; split <;> simp only [lcdAct_pc, dmaStep_pc, lcdNotice_pc]
@[simp] theorem lcdStep_sp (s : State) : (lcdStep s).cpu.sp = s.cpu.sp := by
  unfold lcdStep; dsimp only; split <;> simp only [lcdAct_sp, dmaStep_sp, lcdNotice_sp]
@[simp] theorem lcdStep_ime (s : State) : (lcdStep s).cpu.ime = s.cpu.ime := by
  unfold lcdStep; dsimp only; split <;> simp only [lcdAct_ime, dmaStep_ime, lcdNotice_ime]
@[simp] theorem lcdStep_next (s : State) : (lcdStep s).cpu.next = s.cpu.next := by
  unfold lcdStep; dsimp only; split <;> simp only [lcdAct_next, dmaStep_next, lcdNotice_next]
@[simp] theorem lcdStep_ie (s : State) : (lcdStep s).cpu.ie = s.cpu.ie := by
  unfold lcdStep; dsimp only; split <;> simp only [lcdAct_ie, dmaStep_ie, lcdNotice_ie]
@[simp] theorem lcdStep_timer (s : State) : (lcdStep s).timer = s.timer := by
  unfold lcdStep; dsimp only; split <;> simp only [lcdAct_timer, dmaStep_timer, lcdNotice_timer]
@[simp] theorem lcdStep_joypad (s : State) : (lcdStep s).joypad = s.joypad := by
  unfold lcdStep; dsimp only; split <;> simp only [lcdAct_joypad, dmaStep_joypad, lcdNotice_joypad]
@[simp] theorem lcdStep_platform (s : State) : (lcdStep s).platform = s.platform := by
  unfold lcdStep; dsimp only; split <;> simp only [lcdAct_platform, dmaStep_platform, lcdNotice_platform]

/-! Joypad. -/

@[simp] theorem joypadWrite_params (s : State) (a : Addr) (v : Byte) : (joypadWrite s a v).params = s.params := by
  unfold joypadWrite; split <;> rfl
@[simp] theorem joypadWrite_cyc (s : State) (a : Addr) (v : Byte) : (joypadWrite s a v).cyc = s.cyc := by
  unfold joypadWrite; split <;> rfl
@[simp] theorem joypadWrite_fault (s : State) (a : Addr) (v : Byte) : (joypadWrite s a v).fault = s.fault := by
  unfold joypadWrite; split <;> rfl
@[simp] theorem joypadWrite_regs (s : State) (a : Addr) (v : Byte) : (joypadWrite s a v).cpu.regs = s.cpu.regs := by
  unfold joypadWrite; split <;> rfl
@[simp] theorem joypadWrite_pc (s : State) (a : Addr) (v : Byte) : (joypadWrite s a v).cpu.pc = s.cpu.pc := by
  unfold joypadWrite; split <;> rfl
@[simp] theorem joypadWrite_sp (s : State) (a : Addr) (v : Byte) : (joypadWrite s a v).cpu.sp = s.cpu.sp := by
  unfold joypadWrite; split <;> rfl
@[simp] theorem joypadWrite_ime (s : State) (a : Addr) (v : Byte) : (joypadWrite s a v).cpu.ime = s.cpu.ime := by
  unfold joypadWrite; split <;> rfl
@[simp] theorem joypadWrite_next (s : State) (a : Addr) (v : Byte) : (joypadWrite s a v).cpu.next = s.cpu.next := by
  unfold joypadWrite; split <;> rfl
@[simp] theorem joypadWrite_ie (s : State) (a : Addr) (v : Byte) : (joypadWrite s a v).cpu.ie = s.cpu.ie := by
  unfold joypadWrite; split <;> rfl
@[simp] theorem joypadWrite_timer (s : State) (a : Addr) (v : Byte) : (joypadWrite s a v).timer = s.timer := by
  unfold joypadWrite; split <;> rfl
@[simp] theorem joypadWrite_lcd (s : State) (a : Addr) (v : Byte) : (joypadWrite s a v).lcd = s.lcd := by
  unfold joypadWrite; split <;> rfl
@[simp] theorem joypadWrite_platform (s : State) (a : Addr) (v : Byte) : (joypadWrite s a v).platform = s.platform := by
  unfold joypadWrite; split <;> rfl

@[simp] theorem keyEvent_params (s : State) (k : Key) (b : Bool) : (keyEvent k b s).params = s.params := by
  unfold keyEvent; simp only [requestIf_params]
@[simp] theorem keyEvent_cyc (s : State) (k : Key) (b : Bool) : (keyEvent k b s).cyc = s.cyc := by
  unfold keyEvent; simp only [requestIf_cyc]
@[simp] theorem keyEvent_fault (s : State) (k : Key) (b : Bool) : (keyEvent k b s).fault = s.fault := by
  unfold keyEvent; simp only [requestIf_fault]
@[simp] theorem keyEvent_regs (s : State) (k : Key) (b : Bool) : (keyEvent k b s).cpu.regs = s.cpu.regs := by
  unfold keyEvent; simp only [requestIf_regs]
@[simp] theorem keyEvent_pc (s : State) (k : Key) (b : Bool) : (keyEvent k b s).cpu.pc = s.cpu.pc := by
  unfold keyEvent; simp only [requestIf_pc]
@[simp] theorem keyEvent_sp (s : State) (k : Key) (b : Bool) : (keyEvent k b s).cpu.sp = s.cpu.sp := by
  unfold keyEvent; simp only [requestIf_sp]
@[simp] theorem keyEvent_ime (s : State) (k : Key) (b : Bool) : (keyEvent k b s).cpu.ime = s.cpu.ime := by
  unfold keyEvent; simp only [requestIf_ime]
@[simp] theorem keyEvent_next (s : State) (k : Key) (b : Bool) : (keyEvent k b s).cpu.next = s.cpu.next := by
  unfold keyEvent; simp only [requestIf_next]
@[simp] theorem keyEvent_ie (s : State) (k : Key) (b : Bool) : (keyEvent k b s).cpu.ie = s.cpu.ie := by
  unfold keyEvent; simp only [requestIf_ie]
@[simp] theorem keyEvent_timer (s : State) (k : Key) (b : Bool) : (keyEvent k b s).timer = s.timer := by
  unfold keyEvent; simp only [requestIf_timer]
@[simp] theorem keyEvent_lcd (s : State) (k : Key) (b : Bool) : (keyEvent k b s).lcd = s.lcd := by
  unfold keyEvent; simp only [requestIf_lcd]
@[simp] theorem keyEvent_platform (s : State) (k : Key) (b : Bool) : (keyEvent k b s).platform = s.platform := by
  unfold keyEvent; simp only [requestIf_platform]

end Sys2Proof.Machine
end

