-- ==== Sys2Proof/Laws/Memory.lean ====
section
/-! SUPPORT. Reading after writing a `Memory`, and its canonical form. -/

namespace Sys2Proof.Machine

@[simp] theorem Memory.load_nil (k : Nat) : Memory.load [] k = 0#8 := rfl

/-- Below the first address nothing is listed. -/
theorem Memory.load_below {hi lo : Nat} {m : Memory} (h : Memory.wfFrom hi lo m = true) {k : Nat} (hk : k < lo) :
    Memory.load m k = 0#8 := by
  induction m generalizing lo with
  | nil => rfl
  | cons c m ih =>
    obtain ⟨a, v⟩ := c
    simp only [Memory.wfFrom, Bool.and_eq_true, decide_eq_true_eq] at h
    have hne : k ≠ a := by omega
    simp only [Memory.load, hne, if_false]
    exact ih h.2 (by omega)

/-- A write leaves every other address alone. -/
@[simp] theorem Memory.load_store_ne (m : Memory) {k j : Nat} (v : Byte) (h : j ≠ k) :
    Memory.load (Memory.store m k v) j = Memory.load m j := by
  induction m with
  | nil => simp only [Memory.store]; split <;> simp [Memory.load, h]
  | cons c m ih =>
    obtain ⟨a, w⟩ := c
    by_cases h1 : k < a
    · by_cases hv : v = 0#8 <;> simp [Memory.store, h1, hv, Memory.load, h]
    · by_cases h2 : k = a
      · subst h2
        by_cases hv : v = 0#8 <;> simp [Memory.store, hv, Memory.load, h]
      · simp [Memory.store, h1, h2, Memory.load, ih]

/-- A write is read back. -/
theorem Memory.load_store_self {hi lo : Nat} {m : Memory} (hm : Memory.wfFrom hi lo m = true) (k : Nat) (v : Byte) :
    Memory.load (Memory.store m k v) k = v := by
  induction m generalizing lo with
  | nil => by_cases hv : v = 0#8 <;> simp [Memory.store, hv, Memory.load]
  | cons c m ih =>
    obtain ⟨a, w⟩ := c
    have hw := hm
    simp only [Memory.wfFrom, Bool.and_eq_true, decide_eq_true_eq] at hm
    by_cases h1 : k < a
    · have hz : Memory.load m k = 0#8 := Memory.load_below hm.2 (by omega)
      have hne : k ≠ a := by omega
      by_cases hv : v = 0#8 <;> simp [Memory.store, h1, hv, Memory.load, hne, hz]
    · by_cases h2 : k = a
      · have hz : Memory.load m a = 0#8 := Memory.load_below hm.2 (by omega)
        by_cases hv : v = 0#8 <;> simp [Memory.store, h2, hv, Memory.load, hz]
      · simp [Memory.store, h1, h2, Memory.load, ih hm.2]

/-- The canonical form from a lower address on. -/
theorem Memory.wfFrom_mono {hi lo lo' : Nat} {m : Memory} (hm : Memory.wfFrom hi lo m = true) (h : lo' ≤ lo) :
    Memory.wfFrom hi lo' m = true := by
  cases m with
  | nil => rfl
  | cons c m =>
    simp only [Memory.wfFrom, Bool.and_eq_true, decide_eq_true_eq] at hm ⊢
    exact ⟨⟨⟨by omega, hm.1.1.2⟩, hm.1.2⟩, hm.2⟩

/-- A write inside the size keeps the canonical form. -/
theorem Memory.wfFrom_store {hi lo : Nat} {m : Memory} (hm : Memory.wfFrom hi lo m = true) {k : Nat} (v : Byte) (hlo : lo ≤ k)
    (hhi : k < hi) : Memory.wfFrom hi lo (Memory.store m k v) = true := by
  induction m generalizing lo with
  | nil => by_cases hv : v = 0#8 <;> simp [Memory.store, hv, Memory.wfFrom, hlo, hhi]
  | cons c m ih =>
    obtain ⟨a, w⟩ := c
    have hw := hm
    simp only [Memory.wfFrom, Bool.and_eq_true, decide_eq_true_eq] at hm
    obtain ⟨⟨⟨hla, hah⟩, hw0⟩, hrest⟩ := hm
    by_cases h1 : k < a
    · by_cases hv : v = 0#8
      · simpa [Memory.store, h1, hv] using hw
      · have : Memory.wfFrom hi (k + 1) ((a, w) :: m) = true := by
          simp only [Memory.wfFrom, Bool.and_eq_true, decide_eq_true_eq]
          exact ⟨⟨⟨by omega, hah⟩, hw0⟩, hrest⟩
        simp only [Memory.store, h1, hv, if_true, if_false]
        rw [Memory.wfFrom]
        simp [hlo, hhi, hv, this]
    · by_cases h2 : k = a
      · subst h2
        by_cases hv : v = 0#8
        · simpa [Memory.store, hv] using Memory.wfFrom_mono hrest (by omega)
        · simp [Memory.store, hv, Memory.wfFrom, hlo, hhi, hrest]
      · simp only [Memory.store, h1, h2, if_false]
        rw [Memory.wfFrom]
        simp [hla, hah, hw0, ih hrest (show a + 1 ≤ k by omega)]

theorem Memory.wf_nil (size : Nat) : Memory.wf size [] = true := rfl

theorem Memory.wf_store {size : Nat} {m : Memory} (hm : Memory.wf size m = true) {k : Nat} (v : Byte) (hk : k < size) :
    Memory.wf size (Memory.store m k v) = true := Memory.wfFrom_store hm v (Nat.zero_le k) hk

theorem Memory.wf_load_store {size : Nat} {m : Memory} (hm : Memory.wf size m = true) (k : Nat) (v : Byte) :
    Memory.load (Memory.store m k v) k = v := Memory.load_store_self hm k v

/-- Two canonical memories that read the same everywhere are equal. -/
theorem Memory.ext {hi lo lo' : Nat} {m n : Memory} (hm : Memory.wfFrom hi lo m = true) (hn : Memory.wfFrom hi lo' n = true)
    (h : ∀ k, Memory.load m k = Memory.load n k) : m = n := by
  induction m generalizing lo lo' n with
  | nil =>
    cases n with
    | nil => rfl
    | cons c n =>
      obtain ⟨a, v⟩ := c
      simp only [Memory.wfFrom, Bool.and_eq_true, decide_eq_true_eq] at hn
      have := h a
      simp [Memory.load] at this
      exact absurd this.symm hn.1.2
  | cons c m ih =>
    obtain ⟨a, v⟩ := c
    cases n with
    | nil =>
      simp only [Memory.wfFrom, Bool.and_eq_true, decide_eq_true_eq] at hm
      have := h a
      simp [Memory.load] at this
      exact absurd this hm.1.2
    | cons d n =>
      obtain ⟨b, w⟩ := d
      simp only [Memory.wfFrom, Bool.and_eq_true, decide_eq_true_eq] at hm hn
      rcases Nat.lt_trichotomy a b with hab | hab | hab
      · have := h a
        have hz : Memory.load n a = 0#8 := Memory.load_below hn.2 (by omega)
        have hne : a ≠ b := by omega
        simp [Memory.load, hne, hz] at this
        exact absurd this hm.1.2
      · subst hab
        have hv := h a
        simp [Memory.load] at hv
        subst hv
        congr 1
        refine ih hm.2 hn.2 (fun k => ?_)
        by_cases hk : k = a
        · subst hk
          rw [Memory.load_below hm.2 (by omega), Memory.load_below hn.2 (by omega)]
        · have := h k
          simpa [Memory.load, hk] using this
      · have := h b
        have hz : Memory.load m b = 0#8 := Memory.load_below hm.2 (by omega)
        have hne : b ≠ a := by omega
        simp [Memory.load, hne, hz] at this
        exact absurd this.symm hn.1.2

end Sys2Proof.Machine
end

