-- ==== Sys2Proof/Laws/Bus.lean ====
section
/-! SUPPORT. What a bus write leaves alone, what a bus access depends on, and reading after writing. -/

namespace Sys2Proof.Machine

/-- What every participant's write leaves alone, a bus write leaves alone. -/
theorem busWrite_keeps {α : Type} (f : State → α) (h : ∀ s p a v, f (participantWrite p s a v) = f s) (s : State) (a : Addr)
    (v : Byte) : f (busWrite s a v) = f s := by
  have key : ∀ (ps : List Participant) (t : State), f (ps.foldl (fun u p => participantWrite p u a v) t) = f t := by
    intro ps
    induction ps with
    | nil => exact fun _ => rfl
    | cons p ps ih => exact fun t => (ih _).trans (h t p a v)
  exact key _ s

/-- What every participant's write keeps true, a bus write keeps true. -/
theorem busWrite_inv {P : State → Prop} (h : ∀ s p a v, P s → P (participantWrite p s a v)) {s : State} (hs : P s) (a : Addr)
    (v : Byte) : P (busWrite s a v) := by
  have key : ∀ (ps : List Participant) (t : State), P t → P (ps.foldl (fun u p => participantWrite p u a v) t) := by
    intro ps
    induction ps with
    | nil => exact fun _ ht => ht
    | cons p ps ih => exact fun t ht => ih _ (h t p a v ht)
  exact key _ s hs

@[simp] theorem participantWrite_params (p : Participant) (s : State) (a : Addr) (v : Byte) :
    (participantWrite p s a v).params = s.params := by
  cases p <;> simp only [participantWrite, cpuWrite, timerWrite_params, lcdWrite_params, joypadWrite_params] <;> (repeat (first | rfl | split))

@[simp] theorem busWrite_params (s : State) (a : Addr) (v : Byte) : (busWrite s a v).params = s.params :=
  busWrite_keeps (fun t => t.params) (fun t p a v => participantWrite_params p t a v) s a v

@[simp] theorem busWrite16_params (s : State) (a : Addr) (v : Addr) : (busWrite16 s a v).params = s.params := by
  simp only [busWrite16, busWrite_params]

@[simp] theorem push16_params (s : State) (v : Addr) : (push16 s v).params = s.params := by
  simp only [push16, busWrite16_params, setSp_params]

/-- No write changes a read-only region (`10_state.md` R40). -/
@[simp] theorem participantWrite_rom (p : Participant) (s : State) (a : Addr) (v : Byte) :
    (participantWrite p s a v).platform.rom = s.platform.rom := by
  cases p <;> simp only [participantWrite, cpuWrite, timerWrite_platform, lcdWrite_platform, joypadWrite_platform] <;>
    (repeat (first | rfl | split))

@[simp] theorem busWrite_rom (s : State) (a : Addr) (v : Byte) : (busWrite s a v).platform.rom = s.platform.rom :=
  busWrite_keeps (fun t => t.platform.rom) (fun t p a v => participantWrite_rom p t a v) s a v

@[simp] theorem busWrite16_rom (s : State) (a : Addr) (v : Addr) : (busWrite16 s a v).platform.rom = s.platform.rom := by
  simp only [busWrite16, busWrite_rom]

@[simp] theorem push16_rom (s : State) (v : Addr) : (push16 s v).platform.rom = s.platform.rom := by
  simp only [push16, busWrite16_rom, setSp_platform]

@[simp] theorem participantWrite_cyc (p : Participant) (s : State) (a : Addr) (v : Byte) :
    (participantWrite p s a v).cyc = s.cyc := by
  cases p <;> simp only [participantWrite, cpuWrite, timerWrite_cyc, lcdWrite_cyc, joypadWrite_cyc] <;> (repeat (first | rfl | split))

@[simp] theorem busWrite_cyc (s : State) (a : Addr) (v : Byte) : (busWrite s a v).cyc = s.cyc :=
  busWrite_keeps (fun t => t.cyc) (fun t p a v => participantWrite_cyc p t a v) s a v

@[simp] theorem busWrite16_cyc (s : State) (a : Addr) (v : Addr) : (busWrite16 s a v).cyc = s.cyc := by
  simp only [busWrite16, busWrite_cyc]

@[simp] theorem push16_cyc (s : State) (v : Addr) : (push16 s v).cyc = s.cyc := by
  simp only [push16, busWrite16_cyc, setSp_cyc]

@[simp] theorem participantWrite_fault (p : Participant) (s : State) (a : Addr) (v : Byte) :
    (participantWrite p s a v).fault = s.fault := by
  cases p <;> simp only [participantWrite, cpuWrite, timerWrite_fault, lcdWrite_fault, joypadWrite_fault] <;> (repeat (first | rfl | split))

@[simp] theorem busWrite_fault (s : State) (a : Addr) (v : Byte) : (busWrite s a v).fault = s.fault :=
  busWrite_keeps (fun t => t.fault) (fun t p a v => participantWrite_fault p t a v) s a v

@[simp] theorem busWrite16_fault (s : State) (a : Addr) (v : Addr) : (busWrite16 s a v).fault = s.fault := by
  simp only [busWrite16, busWrite_fault]

@[simp] theorem push16_fault (s : State) (v : Addr) : (push16 s v).fault = s.fault := by
  simp only [push16, busWrite16_fault, setSp_fault]

@[simp] theorem participantWrite_regs (p : Participant) (s : State) (a : Addr) (v : Byte) :
    (participantWrite p s a v).cpu.regs = s.cpu.regs := by
  cases p <;> simp only [participantWrite, cpuWrite, timerWrite_regs, lcdWrite_regs, joypadWrite_regs] <;> (repeat (first | rfl | split))

@[simp] theorem busWrite_regs (s : State) (a : Addr) (v : Byte) : (busWrite s a v).cpu.regs = s.cpu.regs :=
  busWrite_keeps (fun t => t.cpu.regs) (fun t p a v => participantWrite_regs p t a v) s a v

@[simp] theorem busWrite16_regs (s : State) (a : Addr) (v : Addr) : (busWrite16 s a v).cpu.regs = s.cpu.regs := by
  simp only [busWrite16, busWrite_regs]

@[simp] theorem push16_regs (s : State) (v : Addr) : (push16 s v).cpu.regs = s.cpu.regs := by
  simp only [push16, busWrite16_regs, setSp_regs]

@[simp] theorem participantWrite_pc (p : Participant) (s : State) (a : Addr) (v : Byte) :
    (participantWrite p s a v).cpu.pc = s.cpu.pc := by
  cases p <;> simp only [participantWrite, cpuWrite, timerWrite_pc, lcdWrite_pc, joypadWrite_pc] <;> (repeat (first | rfl | split))

@[simp] theorem busWrite_pc (s : State) (a : Addr) (v : Byte) : (busWrite s a v).cpu.pc = s.cpu.pc :=
  busWrite_keeps (fun t => t.cpu.pc) (fun t p a v => participantWrite_pc p t a v) s a v

@[simp] theorem busWrite16_pc (s : State) (a : Addr) (v : Addr) : (busWrite16 s a v).cpu.pc = s.cpu.pc := by
  simp only [busWrite16, busWrite_pc]

@[simp] theorem push16_pc (s : State) (v : Addr) : (push16 s v).cpu.pc = s.cpu.pc := by
  simp only [push16, busWrite16_pc, setSp_pc]

@[simp] theorem participantWrite_sp (p : Participant) (s : State) (a : Addr) (v : Byte) :
    (participantWrite p s a v).cpu.sp = s.cpu.sp := by
  cases p <;> simp only [participantWrite, cpuWrite, timerWrite_sp, lcdWrite_sp, joypadWrite_sp] <;> (repeat (first | rfl | split))

@[simp] theorem busWrite_sp (s : State) (a : Addr) (v : Byte) : (busWrite s a v).cpu.sp = s.cpu.sp :=
  busWrite_keeps (fun t => t.cpu.sp) (fun t p a v => participantWrite_sp p t a v) s a v

@[simp] theorem busWrite16_sp (s : State) (a : Addr) (v : Addr) : (busWrite16 s a v).cpu.sp = s.cpu.sp := by
  simp only [busWrite16, busWrite_sp]

@[simp] theorem push16_sp (s : State) (v : Addr) : (push16 s v).cpu.sp = s.cpu.sp - 2#16 := by
  simp only [push16, busWrite16_sp, setSp_sp]

@[simp] theorem participantWrite_ime (p : Participant) (s : State) (a : Addr) (v : Byte) :
    (participantWrite p s a v).cpu.ime = s.cpu.ime := by
  cases p <;> simp only [participantWrite, cpuWrite, timerWrite_ime, lcdWrite_ime, joypadWrite_ime] <;> (repeat (first | rfl | split))

@[simp] theorem busWrite_ime (s : State) (a : Addr) (v : Byte) : (busWrite s a v).cpu.ime = s.cpu.ime :=
  busWrite_keeps (fun t => t.cpu.ime) (fun t p a v => participantWrite_ime p t a v) s a v

@[simp] theorem busWrite16_ime (s : State) (a : Addr) (v : Addr) : (busWrite16 s a v).cpu.ime = s.cpu.ime := by
  simp only [busWrite16, busWrite_ime]

@[simp] theorem push16_ime (s : State) (v : Addr) : (push16 s v).cpu.ime = s.cpu.ime := by
  simp only [push16, busWrite16_ime, setSp_ime]

@[simp] theorem participantWrite_next (p : Participant) (s : State) (a : Addr) (v : Byte) :
    (participantWrite p s a v).cpu.next = s.cpu.next := by
  cases p <;> simp only [participantWrite, cpuWrite, timerWrite_next, lcdWrite_next, joypadWrite_next] <;> (repeat (first | rfl | split))

@[simp] theorem busWrite_next (s : State) (a : Addr) (v : Byte) : (busWrite s a v).cpu.next = s.cpu.next :=
  busWrite_keeps (fun t => t.cpu.next) (fun t p a v => participantWrite_next p t a v) s a v

@[simp] theorem busWrite16_next (s : State) (a : Addr) (v : Addr) : (busWrite16 s a v).cpu.next = s.cpu.next := by
  simp only [busWrite16, busWrite_next]

@[simp] theorem push16_next (s : State) (v : Addr) : (push16 s v).cpu.next = s.cpu.next := by
  simp only [push16, busWrite16_next, setSp_next]

theorem Regs.ofFn_ext {s t : State} (h : s.cpu.regs = t.cpu.regs) (r : Reg) : s.reg r = t.reg r := by
  simp only [State.reg, h]

/-! The part of the state that the bus sees. -/

/-- Two states agree on everything a bus access reads or writes. -/
structure sameBus (s t : State) : Prop where
  params : s.params = t.params
  timer : s.timer = t.timer
  lcd : s.lcd = t.lcd
  joypad : s.joypad = t.joypad
  platform : s.platform = t.platform
  ie : s.cpu.ie = t.cpu.ie
  iflag : s.cpu.iflag = t.cpu.iflag

theorem sameBus.refl (s : State) : sameBus s s := ⟨rfl, rfl, rfl, rfl, rfl, rfl, rfl⟩

theorem sameBus.symm {s t : State} (h : sameBus s t) : sameBus t s :=
  ⟨h.params.symm, h.timer.symm, h.lcd.symm, h.joypad.symm, h.platform.symm, h.ie.symm, h.iflag.symm⟩

theorem sameBus.trans {s t u : State} (h : sameBus s t) (k : sameBus t u) : sameBus s u :=
  ⟨h.params.trans k.params, h.timer.trans k.timer, h.lcd.trans k.lcd, h.joypad.trans k.joypad, h.platform.trans k.platform, h.ie.trans k.ie,
    h.iflag.trans k.iflag⟩

theorem participantRead_congr {s t : State} (h : sameBus s t) (p : Participant) (a : Addr) :
    participantRead p s a = participantRead p t a := by
  cases p <;> simp only [participantRead, Cpu.read, h.timer, h.lcd, h.joypad, h.platform, h.ie, h.iflag]

/-- A bus read depends on the bus side of the state alone. -/
theorem busRead_congr {s t : State} (h : sameBus s t) (a : Addr) : busRead s a = busRead t a := by
  simp only [busRead, participantRead_congr h, h.params]

/-- The state with the bus side of `u`. -/
def State.withBusOf (s u : State) : State :=
  { s with params := u.params, cpu := { s.cpu with ie := u.cpu.ie, iflag := u.cpu.iflag }
           timer := u.timer, lcd := u.lcd, joypad := u.joypad, platform := u.platform }

theorem sameBus_withBusOf (s u : State) : sameBus (s.withBusOf u) u := ⟨rfl, rfl, rfl, rfl, rfl, rfl, rfl⟩

/-- States that agree on the bus side and on the rest are equal. -/
theorem State.ext_bus {s t : State} (h : sameBus s t) (hc : s.cyc = t.cyc) (hf : s.fault = t.fault)
    (hr : s.cpu.regs = t.cpu.regs) (hp : s.cpu.pc = t.cpu.pc) (hs : s.cpu.sp = t.cpu.sp) (hi : s.cpu.ime = t.cpu.ime)
    (hn : s.cpu.next = t.cpu.next) : s = t := by
  obtain ⟨h0, h1, h2, h3, h4, h5, h6⟩ := h
  rcases s with ⟨m, c, f, ⟨r, p, q, i, e, g, n⟩, a, b, d, k⟩
  rcases t with ⟨m', c', f', ⟨r', p', q', i', e', g', n'⟩, a', b', d', k'⟩
  simp only at *
  subst_vars
  rfl

theorem requestIf_congr {s t : State} (h : sameBus s t) (c : Bool) (i : Source) : sameBus (requestIf c i s) (requestIf c i t) := by
  cases c
  · exact h
  · exact ⟨h.params, h.timer, h.lcd, h.joypad, h.platform, h.ie, by simp [h.iflag]⟩

theorem incIfFalling_congr {s t : State} (h : sameBus s t) (b : Bool) : sameBus (incIfFalling b s) (incIfFalling b t) := by
  have ht := h.timer
  unfold incIfFalling
  rw [ht]
  split
  · split
    · exact ⟨by simp [h.params], by simp, by simp [h.lcd], by simp [h.joypad], by simp [h.platform], by simp [h.ie], by simp [h.iflag]⟩
    · exact ⟨h.params, by simp, h.lcd, h.joypad, h.platform, h.ie, h.iflag⟩
  · exact h

theorem timerWrite_congr {s t : State} (h : sameBus s t) (a : Addr) (v : Byte) : sameBus (timerWrite s a v) (timerWrite t a v) := by
  unfold timerWrite
  split
  · rename_i r _
    cases r
    · simp only [writeTimerReg, writeDiv, h.timer]
      apply incIfFalling_congr
      exact ⟨h.params, rfl, h.lcd, h.joypad, h.platform, h.ie, h.iflag⟩
    · exact ⟨h.params, by simp [writeTimerReg, h.timer], h.lcd, h.joypad, h.platform, h.ie, h.iflag⟩
    · exact ⟨h.params, by simp [writeTimerReg, h.timer], h.lcd, h.joypad, h.platform, h.ie, h.iflag⟩
    · simp only [writeTimerReg, writeTac, h.timer]
      apply incIfFalling_congr
      exact ⟨h.params, rfl, h.lcd, h.joypad, h.platform, h.ie, h.iflag⟩
  · exact h

theorem compareLy_congr {s t : State} (h : sameBus s t) : sameBus (compareLy s) (compareLy t) := by
  simp only [compareLy, h.lcd]
  apply requestIf_congr
  exact ⟨h.params, h.timer, rfl, h.joypad, h.platform, h.ie, h.iflag⟩

theorem setLy_congr {s t : State} (h : sameBus s t) (v : Byte) : sameBus (setLy v s) (setLy v t) :=
  compareLy_congr ⟨h.params, h.timer, by simp [h.lcd], h.joypad, h.platform, h.ie, h.iflag⟩

theorem lcdDisable_congr {s t : State} (h : sameBus s t) : sameBus (lcdDisable s) (lcdDisable t) := by
  have k := setLy_congr h 0#8
  simp only [lcdDisable]
  exact ⟨k.params, k.timer, by rw [k.lcd], k.joypad, k.platform, k.ie, k.iflag⟩

theorem lcdWrite_congr {s t : State} (h : sameBus s t) (a : Addr) (v : Byte) : sameBus (lcdWrite s a v) (lcdWrite t a v) := by
  have plain : ∀ f : Lcd → Lcd, sameBus { s with lcd := f s.lcd } { t with lcd := f t.lcd } := fun f =>
    ⟨h.params, h.timer, by simp [h.lcd], h.joypad, h.platform, h.ie, h.iflag⟩
  unfold lcdWrite
  split
  · exact plain (fun l => { l with vram := l.vram.store (a.toNat - 0x8000) v })
  · split
    · exact plain (fun l => { l with oam := l.oam.store (a.toNat - 0xFE00) v })
    · split
      · rename_i r _
        cases r
        · have k := plain (fun l => { l with lcdc := v })
          simp only [writeLcdReg, writeLcdc]
          rw [show s.lcd.lcdc = t.lcd.lcdc by rw [h.lcd]]
          split
          · exact lcdDisable_congr k
          · exact k
        · exact plain (fun l => { l with stat := (v &&& 0xF8#8) ||| (l.stat &&& 0x07#8) })
        · exact plain (fun l => { l with scy := v })
        · exact plain (fun l => { l with scx := v })
        · exact h
        · exact compareLy_congr (plain (fun l => { l with lyc := v }))
        · exact plain (fun l => { l with dma := v, dmaIndex := 0 })
        · exact plain (fun l => { l with bgp := v })
        · exact plain (fun l => { l with obp0 := v })
        · exact plain (fun l => { l with obp1 := v })
        · exact plain (fun l => { l with wy := v })
        · exact plain (fun l => { l with wx := v })
      · exact h

theorem participantWrite_congr {s t : State} (h : sameBus s t) (p : Participant) (a : Addr) (v : Byte) :
    sameBus (participantWrite p s a v) (participantWrite p t a v) := by
  cases p
  · simp only [participantWrite]
    split
    · exact ⟨h.params, h.timer, h.lcd, h.joypad, by simp [h.platform], h.ie, h.iflag⟩
    · exact h
  · simp only [participantWrite]
    split
    · exact ⟨h.params, h.timer, h.lcd, h.joypad, by simp [h.platform], h.ie, h.iflag⟩
    · exact h
  · simp only [participantWrite, cpuWrite]
    split
    · exact ⟨h.params, h.timer, h.lcd, h.joypad, h.platform, rfl, h.iflag⟩
    · split
      · exact ⟨h.params, h.timer, h.lcd, h.joypad, h.platform, h.ie, rfl⟩
      · exact h
  · simp only [participantWrite]
    split
    · exact ⟨h.params, h.timer, h.lcd, h.joypad, by simp [h.platform], h.ie, h.iflag⟩
    · exact h
  · exact timerWrite_congr h a v
  · exact lcdWrite_congr h a v
  · simp only [participantWrite, joypadWrite]
    split
    · exact ⟨h.params, h.timer, h.lcd, by simp [h.joypad], h.platform, h.ie, h.iflag⟩
    · exact h
  · exact ⟨h.params, h.timer, h.lcd, h.joypad, by simp [participantWrite, h.platform], h.ie, h.iflag⟩
  case rom => exact h
  all_goals
    simp only [participantWrite]
    split
    · exact ⟨h.params, h.timer, h.lcd, h.joypad, by simp [h.platform], h.ie, h.iflag⟩
    · exact h

/-- A bus write's effect depends on the bus side of the state alone. -/
theorem busWrite_congr {s t : State} (h : sameBus s t) (a : Addr) (v : Byte) : sameBus (busWrite s a v) (busWrite t a v) := by
  have key : ∀ (ps : List Participant) (s t : State), sameBus s t →
      sameBus (ps.foldl (fun u p => participantWrite p u a v) s) (ps.foldl (fun u p => participantWrite p u a v) t) := by
    intro ps
    induction ps with
    | nil => exact fun _ _ h => h
    | cons p ps ih => exact fun s t h => ih _ _ (participantWrite_congr h p a v)
  rw [busWrite, busWrite, h.params]
  exact key _ s t h

theorem busWrite16_congr {s t : State} (h : sameBus s t) (a : Addr) (v : Addr) : sameBus (busWrite16 s a v) (busWrite16 t a v) :=
  busWrite_congr (busWrite_congr h _ _) _ _

/-! Updates of the Cpu's own side keep the bus side. -/

theorem sameBus_setReg (s : State) (r : Reg) (v : Byte) : sameBus (s.setReg r v) s := ⟨rfl, rfl, rfl, rfl, rfl, rfl, rfl⟩
theorem sameBus_setR8 (s : State) (r : R8) (v : Byte) : sameBus (s.setR8 r v) s := ⟨rfl, rfl, rfl, rfl, rfl, rfl, rfl⟩
theorem sameBus_setFlags (s : State) (t : FlagTuple) (f : Flags) : sameBus (s.setFlags t f) s := ⟨rfl, rfl, rfl, rfl, rfl, rfl, rfl⟩
theorem sameBus_setPair (s : State) (p : Pair) (v : Addr) : sameBus (s.setPair p v) s := ⟨rfl, rfl, rfl, rfl, rfl, rfl, rfl⟩
theorem sameBus_setSp (s : State) (v : Addr) : sameBus (s.setSp v) s := ⟨rfl, rfl, rfl, rfl, rfl, rfl, rfl⟩
theorem sameBus_setIme (s : State) (b : Bool) : sameBus (s.setIme b) s := ⟨rfl, rfl, rfl, rfl, rfl, rfl, rfl⟩
theorem sameBus_finish (s : State) (p : Addr) (c : Nat) : sameBus (s.finish p c) s := ⟨rfl, rfl, rfl, rfl, rfl, rfl, rfl⟩
theorem sameBus_stepHl (s : State) (m : R16mem) : sameBus (s.stepHl m) s := by
  cases m <;> exact ⟨rfl, rfl, rfl, rfl, rfl, rfl, rfl⟩
theorem sameBus_setR16sp (s : State) (p : R16sp) (v : Addr) : sameBus (s.setR16sp p v) s := by
  cases p <;> exact ⟨rfl, rfl, rfl, rfl, rfl, rfl, rfl⟩
theorem sameBus_setRegBit (s : State) (r : Reg) (i : Fin 8) (b : Bool) : sameBus (s.setRegBit r i b) s :=
  ⟨rfl, rfl, rfl, rfl, rfl, rfl, rfl⟩
theorem sameBus_popped (s : State) : sameBus (popped s) s := ⟨rfl, rfl, rfl, rfl, rfl, rfl, rfl⟩

end Sys2Proof.Machine
end

