-- ==== Sys2Proof/Laws/ReadWrite.lean ====
section
/-! SUPPORT. A bus read after a bus write: the byte written, and every byte the write does not reach. -/

namespace Sys2Proof.Machine

/-! The components after a bus write. -/

theorem busWrite_default {s : State} (hp : DefaultPlatform s) (a : Addr) (v : Byte) :
    busWrite s a v = Config.platform.foldl (fun t p => participantWrite p t a v) s := by rw [busWrite, hp]

theorem busWrite_ie {s : State} (hp : DefaultPlatform s) (a : Addr) (v : Byte) : (busWrite s a v).cpu.ie = if a = 0xFFFF#16 then v else s.cpu.ie := by
  simp only [busWrite_default hp, Config.platform, List.foldl_cons, List.foldl_nil, participantWrite, joypadWrite_ie, lcdWrite_ie,
    timerWrite_ie]
  by_cases h : a = 0xFFFF#16
  · subst h; rfl
  · simp only [cpuWrite, h, if_false]
    (repeat (first | rfl | split))

theorem busWrite_workRam {s : State} (hp : DefaultPlatform s) (a : Addr) (v : Byte) :
    (busWrite s a v).platform.workRam =
      if inWorkRam a then s.platform.workRam.store (a.toNat - 0xC000) v
      else if inEcho a then s.platform.workRam.store (a.toNat - 0xE000) v else s.platform.workRam := by
  have hx : inWorkRam a = true → inEcho a = false := by
    simp only [inWorkRam, inEcho, Bool.and_eq_true, decide_eq_true_eq, Bool.and_eq_false_iff, decide_eq_false_iff_not]
    omega
  simp only [busWrite_default hp, Config.platform, List.foldl_cons, List.foldl_nil, participantWrite, joypadWrite_platform,
    lcdWrite_platform, timerWrite_platform]
  by_cases h : inWorkRam a = true
  · simp only [h, hx h, if_true, Bool.false_eq_true, if_false, cpuWrite]
    repeat (first | rfl | split)
  · simp only [h, cpuWrite]
    repeat (first | rfl | split)

theorem busWrite_highRam {s : State} (hp : DefaultPlatform s) (a : Addr) (v : Byte) :
    (busWrite s a v).platform.highRam =
      if inHighRam a then s.platform.highRam.store (a.toNat - 0xFF80) v else s.platform.highRam := by
  simp only [busWrite_default hp, Config.platform, List.foldl_cons, List.foldl_nil, participantWrite, joypadWrite_platform,
    lcdWrite_platform, timerWrite_platform]
  by_cases h : inHighRam a = true
  · simp only [h, if_true, cpuWrite]
    repeat (first | rfl | split)
  · simp only [h, cpuWrite]
    repeat (first | rfl | split)

theorem busWrite_cart {s : State} (hp : DefaultPlatform s) (a : Addr) (v : Byte) : (busWrite s a v).platform.cart = s.platform.cart.write a v := by
  simp only [busWrite_default hp, Config.platform, List.foldl_cons, List.foldl_nil, participantWrite, joypadWrite_platform,
    lcdWrite_platform, timerWrite_platform, cpuWrite]
  repeat (first | rfl | split)

/-- The participants before the timer leave the devices alone. -/
theorem front_devices (s : State) (a : Addr) (v : Byte) (p : Participant) (h : p = .workRam ∨ p = .echo ∨ p = .cpu ∨ p = .highRam) :
    (participantWrite p s a v).timer = s.timer ∧ (participantWrite p s a v).lcd = s.lcd ∧
      (participantWrite p s a v).joypad = s.joypad := by
  rcases h with rfl | rfl | rfl | rfl <;> simp only [participantWrite, cpuWrite] <;>
    refine ⟨?_, ?_, ?_⟩ <;> (repeat (first | rfl | split))

theorem timerWrite_timer_congr {s t : State} (h : s.timer = t.timer) (a : Addr) (v : Byte) :
    (timerWrite s a v).timer = (timerWrite t a v).timer := by
  have k : sameBus s (s.withBusOf s) := ⟨rfl, rfl, rfl, rfl, rfl, rfl, rfl⟩
  unfold timerWrite
  split
  · rename_i r _
    cases r <;> simp only [writeTimerReg, writeDiv, writeTac, incIfFalling, h]
    · split <;> (try split) <;> rfl
    · split <;> (try split) <;> rfl
  · exact h

theorem busWrite_timer {s : State} (hp : DefaultPlatform s) (a : Addr) (v : Byte) : (busWrite s a v).timer = (timerWrite s a v).timer := by
  simp only [busWrite_default hp, Config.platform, List.foldl_cons, List.foldl_nil]
  simp only [participantWrite, joypadWrite_timer, lcdWrite_timer]
  apply timerWrite_timer_congr
  simp only [cpuWrite]
  repeat (first | rfl | split)

theorem compareLy_lcd_congr {s t : State} (h : s.lcd = t.lcd) : (compareLy s).lcd = (compareLy t).lcd := by
  simp [compareLy, h]

theorem lcdWrite_lcd_congr {s t : State} (h : s.lcd = t.lcd) (a : Addr) (v : Byte) :
    (lcdWrite s a v).lcd = (lcdWrite t a v).lcd := by
  unfold lcdWrite
  split
  · simp [h]
  · split
    · simp [h]
    · split
      · rename_i r _
        cases r <;> simp only [writeLcdReg, writeStat, writeDma, writeLyc, h]
        · simp only [writeLcdc, h]
          split
          · simp [lcdDisable, setLy, compareLy]
          · simp
        · exact compareLy_lcd_congr rfl
      · exact h

theorem busWrite_lcd {s : State} (hp : DefaultPlatform s) (a : Addr) (v : Byte) : (busWrite s a v).lcd = (lcdWrite s a v).lcd := by
  simp only [busWrite_default hp, Config.platform, List.foldl_cons, List.foldl_nil]
  simp only [participantWrite, joypadWrite_lcd]
  apply lcdWrite_lcd_congr
  simp only [timerWrite_lcd, cpuWrite]
  repeat (first | rfl | split)

theorem busWrite_joypad {s : State} (hp : DefaultPlatform s) (a : Addr) (v : Byte) : (busWrite s a v).joypad = (joypadWrite s a v).joypad := by
  simp only [busWrite_default hp, Config.platform, List.foldl_cons, List.foldl_nil]
  simp only [participantWrite]
  have key : ∀ t : State, t.joypad = s.joypad → (joypadWrite t a v).joypad = (joypadWrite s a v).joypad := by
    intro t h
    unfold joypadWrite
    split
    · simp [h]
    · exact h
  apply key
  simp only [lcdWrite_joypad, timerWrite_joypad, cpuWrite]
  repeat (first | rfl | split)

/-! Which register an address names. -/

theorem timerRegAt_some {a : Addr} {r : TimerReg} (h : timerRegAt a = some r) : a = r.addr := by
  have := List.find?_some h
  exact (beq_iff_eq.mp this).symm

theorem lcdRegAt_some {a : Addr} {r : LcdReg} (h : lcdRegAt a = some r) : a = r.addr := by
  have := List.find?_some h
  exact (beq_iff_eq.mp this).symm

@[simp] theorem timerRegAt_addr (r : TimerReg) : timerRegAt r.addr = some r := by cases r <;> rfl

@[simp] theorem lcdRegAt_addr (r : LcdReg) : lcdRegAt r.addr = some r := by cases r <;> rfl

/-! The pending bits after a bus write. -/

theorem timerWrite_iflag (s : State) (a : Addr) (v : Byte) (h4 : a ≠ 0xFF04#16) (h7 : a ≠ 0xFF07#16) :
    (timerWrite s a v).cpu.iflag = s.cpu.iflag := by
  unfold timerWrite
  split
  · rename_i r hr
    have := timerRegAt_some hr
    cases r
    · exact absurd this h4
    · rfl
    · rfl
    · exact absurd this h7
  · rfl

theorem lcdWrite_iflag (s : State) (a : Addr) (v : Byte) (h0 : a ≠ 0xFF40#16) (h5 : a ≠ 0xFF45#16) :
    (lcdWrite s a v).cpu.iflag = s.cpu.iflag := by
  unfold lcdWrite
  split
  · rfl
  · split
    · rfl
    · split
      · rename_i r hr
        have := lcdRegAt_some hr
        cases r
        · exact absurd this h0
        · rfl
        · rfl
        · rfl
        · rfl
        · exact absurd this h5
        all_goals rfl
      · rfl

theorem joypadWrite_iflag (s : State) (a : Addr) (v : Byte) : (joypadWrite s a v).cpu.iflag = s.cpu.iflag := by
  unfold joypadWrite
  split <;> rfl

/-- Only a write to IF, DIV, TAC, LCDC or LYC changes the pending bits. -/
theorem busWrite_iflag_frame {s : State} (hp : DefaultPlatform s) (a : Addr) (v : Byte) (hf : a ≠ 0xFF0F#16) (h4 : a ≠ 0xFF04#16) (h7 : a ≠ 0xFF07#16)
    (h0 : a ≠ 0xFF40#16) (h5 : a ≠ 0xFF45#16) : (busWrite s a v).cpu.iflag = s.cpu.iflag := by
  simp only [busWrite_default hp, Config.platform, List.foldl_cons, List.foldl_nil]
  simp only [participantWrite, joypadWrite_iflag, lcdWrite_iflag _ _ _ h0 h5, timerWrite_iflag _ _ _ h4 h7, cpuWrite, hf,
    if_false]
  repeat (first | rfl | split)

/-- A write to IF stores the byte. -/
theorem busWrite_iflag_self {s : State} (hp : DefaultPlatform s) (v : Byte) : (busWrite s 0xFF0F#16 v).cpu.iflag = v := by
  simp only [busWrite_default hp, Config.platform, List.foldl_cons, List.foldl_nil]
  simp only [participantWrite, joypadWrite_iflag, lcdWrite_iflag _ 0xFF0F#16 _ (by decide) (by decide),
    timerWrite_iflag _ 0xFF0F#16 _ (by decide) (by decide)]
  rfl

/-! Reading a device after a write. -/

theorem timer_read_write (s : State) (a b : Addr) (v : Byte) (hne : b ≠ a)
    (h : ¬((a = 0xFF04#16 ∨ a = 0xFF07#16) ∧ b = 0xFF05#16)) :
    (timerWrite s a v).timer.read b = s.timer.read b := by
  unfold timerWrite
  split
  · rename_i r hr
    have ha := timerRegAt_some hr
    unfold Timer.read
    cases hb : timerRegAt b with
    | none => rfl
    | some q =>
      have hq := timerRegAt_some hb
      subst ha hq
      simp only [Option.map_some, Option.some.injEq]
      cases r <;> cases q <;>
        first
        | exact absurd rfl hne
        | rfl
        | exact absurd (by decide) h
        | (simp only [writeTimerReg, writeDiv, writeTac, incIfFalling, Timer.readReg]; (repeat (first | rfl | split)))
  · rfl

theorem lcd_read_write (s : State) (a b : Addr) (v : Byte) (hne : b ≠ a)
    (h0 : ¬(a = 0xFF40#16 ∧ (b = 0xFF41#16 ∨ b = 0xFF44#16))) (h5 : ¬(a = 0xFF45#16 ∧ b = 0xFF41#16)) :
    (lcdWrite s a v).lcd.read b = s.lcd.read b := by
  have mem : ∀ (m : Memory) (base : Nat), base ≤ a.toNat → base ≤ b.toNat →
      Memory.load (Memory.store m (a.toNat - base) v) (b.toNat - base) = Memory.load m (b.toNat - base) := by
    intro m base h1 h2
    refine Memory.load_store_ne _ _ (fun e => hne ?_)
    exact BitVec.eq_of_toNat_eq (by omega)
  unfold lcdWrite
  split
  · rename_i ha
    unfold Lcd.read
    split
    · rename_i hb
      simp only [inVram, Bool.and_eq_true, decide_eq_true_eq] at ha hb
      simp only [mem _ _ ha.1 hb.1]
    · rfl
  · split
    · rename_i ha
      unfold Lcd.read
      split
      · rfl
      · split
        · rename_i hb
          simp only [inOam, Bool.and_eq_true, decide_eq_true_eq] at ha hb
          simp only [mem _ _ ha.1 hb.1]
        · rfl
    · split
      · rename_i r hr
        have ha := lcdRegAt_some hr
        have hv : (writeLcdReg s r v).lcd.vram = s.lcd.vram ∧ (writeLcdReg s r v).lcd.oam = s.lcd.oam := by
          cases r <;> simp only [writeLcdReg, writeLcdc, writeStat, writeLyc, writeDma, lcdDisable, setLy, compareLy,
            Lcd.withMode] <;> first | exact ⟨rfl, rfl⟩ | (constructor <;> (repeat (first | rfl | split | simp)))
        unfold Lcd.read
        rw [hv.1, hv.2]
        cases hb : lcdRegAt b with
        | none => rfl
        | some q =>
          have hq := lcdRegAt_some hb
          subst ha hq
          have key : (writeLcdReg s r v).lcd.readReg q = s.lcd.readReg q := by
            cases r <;> cases q <;>
              first
              | exact absurd rfl hne
              | rfl
              | exact absurd (by decide) h0
              | exact absurd (by decide) h5
              | (simp only [writeLcdReg, writeLcdc, writeLyc, lcdDisable, setLy, compareLy, Lcd.withMode, Lcd.readReg]
                 (repeat (first | rfl | split | simp)))
          simp only [Option.map_some, key]
      · rfl

end Sys2Proof.Machine
end

