-- ==== Sys2Proof/Laws/BusFrame.lean ====
section
/-! SUPPORT. The two laws of the bus: a byte a write does not reach reads as before, and a plain byte reads as written. -/

namespace Sys2Proof.Machine

/-- Every byte a write does not reach reads as before (`20_memory.md` R101). -/
theorem busRead_busWrite_frame {s : State} (hp : DefaultPlatform s) (a b : Addr) (v : Byte) (h : writeReaches s a b = false) :
    busRead (busWrite s a v) b = busRead s b := by
  simp only [writeReaches, Bool.or_eq_false_iff, Bool.and_eq_false_iff, beq_eq_false_iff_ne] at h
  obtain ⟨⟨⟨⟨⟨⟨hne, hwe⟩, hew⟩, ht⟩, h0⟩, h5⟩, hc⟩ := h
  have key : ∀ p ∈ Config.platform, participantRead p (busWrite s a v) b = participantRead p s b := by
    intro p hm
    cases p
    · -- work RAM
      simp only [participantRead, busWrite_workRam hp]
      by_cases hb : inWorkRam b = true
      · simp only [hb, if_true, Option.some.injEq]
        by_cases ha : inWorkRam a = true
        · simp only [ha, if_true]
          refine Memory.load_store_ne _ _ (fun e => hne ?_)
          simp only [inWorkRam, Bool.and_eq_true, decide_eq_true_eq] at ha hb
          exact BitVec.eq_of_toNat_eq (by omega)
        · simp only [ha]
          by_cases he : inEcho a = true
          · simp only [he, if_true, Bool.false_eq_true, if_false]
            refine Memory.load_store_ne _ _ (fun e => ?_)
            have hx : b ≠ a - 0x2000#16 := by
              rcases hew with hew | hew
              · rcases hew with hew | hew
                · exact absurd he (by simp [hew])
                · exact absurd hb (by simp [hew])
              · exact hew
            simp only [inWorkRam, inEcho, Bool.and_eq_true, decide_eq_true_eq] at he hb
            exact hx (by bv_omega)
          · simp [he]
      · simp [hb]
    · -- echo
      simp only [participantRead, busWrite_workRam hp]
      by_cases hb : inEcho b = true
      · simp only [hb, if_true, Option.some.injEq]
        by_cases ha : inWorkRam a = true
        · simp only [ha, if_true]
          refine Memory.load_store_ne _ _ (fun e => ?_)
          have hx : b ≠ a + 0x2000#16 := by
            rcases hwe with hwe | hwe
            · rcases hwe with hwe | hwe
              · exact absurd ha (by simp [hwe])
              · exact absurd hb (by simp [hwe])
            · exact hwe
          simp only [inWorkRam, inEcho, Bool.and_eq_true, decide_eq_true_eq] at ha hb
          exact hx (by bv_omega)
        · simp only [ha]
          by_cases he : inEcho a = true
          · simp only [he, if_true, Bool.false_eq_true, if_false]
            refine Memory.load_store_ne _ _ (fun e => hne ?_)
            simp only [inEcho, Bool.and_eq_true, decide_eq_true_eq] at he hb
            exact BitVec.eq_of_toNat_eq (by omega)
          · simp [he]
      · simp [hb]
    · -- IE and IF
      simp only [participantRead, Cpu.read]
      by_cases hb : b = 0xFFFF#16
      · subst hb
        have : a ≠ 0xFFFF#16 := fun e => hne e.symm
        simp [busWrite_ie hp, this]
      · by_cases hf : b = 0xFF0F#16
        · subst hf
          have hif : (busWrite s a v).cpu.iflag = s.cpu.iflag := by
            refine busWrite_iflag_frame hp a v (fun e => hne e.symm) ?_ ?_ ?_ ?_
            · rintro rfl; simp at ht
            · rintro rfl; simp at ht
            · rintro rfl; simp at h0
            · rintro rfl; simp at h5
          simp [hif]
        · simp [hb, hf]
    · -- high RAM
      simp only [participantRead, busWrite_highRam hp]
      by_cases hb : inHighRam b = true
      · simp only [hb, if_true, Option.some.injEq]
        by_cases ha : inHighRam a = true
        · simp only [ha, if_true]
          refine Memory.load_store_ne _ _ (fun e => hne ?_)
          simp only [inHighRam, Bool.and_eq_true, decide_eq_true_eq] at ha hb
          exact BitVec.eq_of_toNat_eq (by omega)
        · simp [ha]
      · simp [hb]
    · -- timer
      simp only [participantRead, busWrite_timer hp]
      refine timer_read_write s a b v hne ?_
      rintro ⟨rfl | rfl, rfl⟩ <;> simp at ht
    · -- LCD controller
      simp only [participantRead, busWrite_lcd hp]
      refine lcd_read_write s a b v hne ?_ ?_
      · rintro ⟨rfl, rfl | rfl⟩ <;> simp at h0
      · rintro ⟨rfl, rfl⟩; simp at h5
    · -- joypad
      simp only [participantRead, busWrite_joypad hp, Joypad.read]
      by_cases hb : b = 0xFF00#16
      · have : a ≠ 0xFF00#16 := fun e => hne (hb.trans e.symm)
        simp [joypadWrite, this]
      · simp [hb]
    · -- cartridge
      simp only [participantRead, busWrite_cart hp]
      cases hk : s.platform.cart with
      | image rom => rfl
      | oracle hist =>
        rw [hk] at hc
        simp only [Bool.and_eq_false_iff] at hc
        rcases hc with hc | hc
        · simp [Cartridge.write, hc]
        · simp only [Cartridge.read, Cartridge.write, hc]
          by_cases hca : cartridgeClaims a = true <;> simp [hca]
    · exact absurd hm (by simp [Config.platform])
    · exact absurd hm (by simp [Config.platform])
    · exact absurd hm (by simp [Config.platform])
  rw [busRead, busRead, busWrite_params, hp]
  simp only [Config.platform, List.mem_cons, forall_eq_or_imp, List.not_mem_nil, false_implies, implies_true, and_true] at key
  obtain ⟨k1, k2, k3, k4, k5, k6, k7, k8⟩ := key
  simp only [Config.platform, List.findSome?_cons, List.findSome?_nil, k1, k2, k3, k4, k5, k6, k7, k8]

/-- The address of a plain byte, by the participant that holds it. -/
theorem plainStorage_cases {a : Addr} (h : plainStorage a = true) :
    inVram a = true ∨ inOam a = true ∨ inWorkRam a = true ∨ inEcho a = true ∨ inHighRam a = true ∨ a = 0xFFFF#16 ∨
      a = 0xFF0F#16 ∨ (∃ r : TimerReg, r ≠ .div ∧ a = r.addr) ∨ (∃ r : LcdReg, r ≠ .stat ∧ r ≠ .ly ∧ a = r.addr) := by
  simp only [plainStorage, Bool.or_eq_true, beq_iff_eq] at h
  rcases h with ((((((((((((h | h) | h) | h) | h) | h) | h) | h) | h) | h) | h) | h) | h) | h
  · exact .inl h
  · exact .inr (.inl h)
  · exact .inr (.inr (.inl h))
  · exact .inr (.inr (.inr (.inl h)))
  · exact .inr (.inr (.inr (.inr (.inl h))))
  · exact .inr (.inr (.inr (.inr (.inr (.inl h)))))
  · exact .inr (.inr (.inr (.inr (.inr (.inr (.inl h))))))
  · exact .inr (.inr (.inr (.inr (.inr (.inr (.inr (.inl ⟨.tima, by decide, h⟩)))))))
  · exact .inr (.inr (.inr (.inr (.inr (.inr (.inr (.inl ⟨.tma, by decide, h⟩)))))))
  · exact .inr (.inr (.inr (.inr (.inr (.inr (.inr (.inl ⟨.tac, by decide, h⟩)))))))
  · exact .inr (.inr (.inr (.inr (.inr (.inr (.inr (.inr ⟨.lcdc, by decide, by decide, h⟩)))))))
  · exact .inr (.inr (.inr (.inr (.inr (.inr (.inr (.inr ⟨.scy, by decide, by decide, h⟩)))))))
  · exact .inr (.inr (.inr (.inr (.inr (.inr (.inr (.inr ⟨.scx, by decide, by decide, h⟩)))))))
  · refine .inr (.inr (.inr (.inr (.inr (.inr (.inr (.inr ?_)))))))
    simp only [Bool.and_eq_true, decide_eq_true_eq] at h
    have e : ∀ n : Nat, n < 65536 → a.toNat = n → a = BitVec.ofNat 16 n := fun n hn e =>
      BitVec.eq_of_toNat_eq (by simp [e]; omega)
    have : a.toNat = 0xFF45 ∨ a.toNat = 0xFF46 ∨ a.toNat = 0xFF47 ∨ a.toNat = 0xFF48 ∨ a.toNat = 0xFF49 ∨
        a.toNat = 0xFF4A ∨ a.toNat = 0xFF4B := by omega
    rcases this with k | k | k | k | k | k | k
    · exact ⟨.lyc, by decide, by decide, e _ (by omega) k⟩
    · exact ⟨.dma, by decide, by decide, e _ (by omega) k⟩
    · exact ⟨.bgp, by decide, by decide, e _ (by omega) k⟩
    · exact ⟨.obp0, by decide, by decide, e _ (by omega) k⟩
    · exact ⟨.obp1, by decide, by decide, e _ (by omega) k⟩
    · exact ⟨.wy, by decide, by decide, e _ (by omega) k⟩
    · exact ⟨.wx, by decide, by decide, e _ (by omega) k⟩

/-- The first answer of the platform, participant by participant (R82, R91). -/
theorem busRead_eq {s : State} (hp : DefaultPlatform s) (a : Addr) :
    busRead s a =
      ((participantRead .workRam s a).orElse fun _ => (participantRead .echo s a).orElse fun _ =>
        (participantRead .cpu s a).orElse fun _ => (participantRead .highRam s a).orElse fun _ =>
        (participantRead .timer s a).orElse fun _ => (participantRead .lcd s a).orElse fun _ =>
        (participantRead .joypad s a).orElse fun _ => participantRead .cartridge s a).getD 0xFF#8 := by
  simp only [busRead, hp, Config.platform, List.findSome?_cons, List.findSome?_nil]
  cases participantRead .workRam s a <;> cases participantRead .echo s a <;> cases participantRead .cpu s a <;>
    cases participantRead .highRam s a <;> cases participantRead .timer s a <;> cases participantRead .lcd s a <;>
    cases participantRead .joypad s a <;> cases participantRead .cartridge s a <;> rfl

/-! The address map: who answers where (R90, R91). -/

theorem timerRegAt_none {a : Addr} (h : a.toNat < 0xFF04 ∨ 0xFF07 < a.toNat) : timerRegAt a = none := by
  cases e : timerRegAt a with
  | none => rfl
  | some r =>
    have := timerRegAt_some e
    subst this
    cases r <;> revert h <;> decide

theorem lcdRegAt_none {a : Addr} (h : a.toNat < 0xFF40 ∨ 0xFF4B < a.toNat) : lcdRegAt a = none := by
  cases e : lcdRegAt a with
  | none => rfl
  | some r =>
    have := lcdRegAt_some e
    subst this
    cases r <;> revert h <;> decide

theorem cpuRead_none {s : State} {a : Addr} (h : a.toNat < 0xFF0F ∨ (0xFF0F < a.toNat ∧ a.toNat < 0xFFFF)) : s.cpu.read a = none := by
  have h1 : a ≠ 0xFFFF#16 := by rintro rfl; revert h; decide
  have h2 : a ≠ 0xFF0F#16 := by rintro rfl; revert h; decide
  simp [Cpu.read, h1, h2]

theorem busRead_vram {s : State} (hp : DefaultPlatform s) {a : Addr} (h : inVram a = true) : busRead s a = s.lcd.vram.load (a.toNat - 0x8000) := by
  have h' := h
  simp only [inVram, Bool.and_eq_true, decide_eq_true_eq] at h'
  have e1 : inWorkRam a = false := by simp [inWorkRam]; omega
  have e2 : inEcho a = false := by simp [inEcho]; omega
  have e3 : inHighRam a = false := by simp [inHighRam]; omega
  rw [busRead_eq hp]
  simp [participantRead, e1, e2, e3, cpuRead_none (s := s) (a := a) (by omega), Timer.read,
    timerRegAt_none (a := a) (by omega), Lcd.read, h]

theorem busRead_oam {s : State} (hp : DefaultPlatform s) {a : Addr} (h : inOam a = true) : busRead s a = s.lcd.oam.load (a.toNat - 0xFE00) := by
  have h' := h
  simp only [inOam, Bool.and_eq_true, decide_eq_true_eq] at h'
  have e0 : inVram a = false := by simp [inVram]; omega
  have e1 : inWorkRam a = false := by simp [inWorkRam]; omega
  have e2 : inEcho a = false := by simp [inEcho]; omega
  have e3 : inHighRam a = false := by simp [inHighRam]; omega
  rw [busRead_eq hp]
  simp [participantRead, e1, e2, e3, cpuRead_none (s := s) (a := a) (by omega), Timer.read,
    timerRegAt_none (a := a) (by omega), Lcd.read, h, e0]

theorem busRead_workRam {s : State} (hp : DefaultPlatform s) {a : Addr} (h : inWorkRam a = true) :
    busRead s a = s.platform.workRam.load (a.toNat - 0xC000) := by
  rw [busRead_eq hp]
  simp [participantRead, h]

theorem busRead_echo {s : State} (hp : DefaultPlatform s) {a : Addr} (h : inEcho a = true) :
    busRead s a = s.platform.workRam.load (a.toNat - 0xE000) := by
  have h' := h
  simp only [inEcho, Bool.and_eq_true, decide_eq_true_eq] at h'
  have e1 : inWorkRam a = false := by simp [inWorkRam]; omega
  rw [busRead_eq hp]
  simp [participantRead, h, e1]

theorem busRead_highRam {s : State} (hp : DefaultPlatform s) {a : Addr} (h : inHighRam a = true) :
    busRead s a = s.platform.highRam.load (a.toNat - 0xFF80) := by
  have h' := h
  simp only [inHighRam, Bool.and_eq_true, decide_eq_true_eq] at h'
  have e1 : inWorkRam a = false := by simp [inWorkRam]; omega
  have e2 : inEcho a = false := by simp [inEcho]; omega
  rw [busRead_eq hp]
  simp [participantRead, h, e1, e2, cpuRead_none (s := s) (a := a) (by omega)]

theorem busRead_ie {s : State} (hp : DefaultPlatform s) : busRead s 0xFFFF#16 = s.cpu.ie := by
  rw [busRead_eq hp]; rfl

theorem busRead_iflag {s : State} (hp : DefaultPlatform s) : busRead s 0xFF0F#16 = s.cpu.iflag := by
  rw [busRead_eq hp]; rfl

theorem busRead_timerReg {s : State} (hp : DefaultPlatform s) (r : TimerReg) : busRead s r.addr = s.timer.readReg r := by
  rw [busRead_eq hp]; cases r <;> rfl

theorem busRead_lcdReg {s : State} (hp : DefaultPlatform s) (r : LcdReg) : busRead s r.addr = s.lcd.readReg r := by
  rw [busRead_eq hp]; cases r <;> rfl

theorem busRead_joypad {s : State} (hp : DefaultPlatform s) : busRead s 0xFF00#16 = ~~~s.joypad.p1int := by
  rw [busRead_eq hp]; rfl

/-- In the cartridge's ranges the cartridge alone answers. -/
theorem busRead_cart {s : State} (hp : DefaultPlatform s) {a : Addr} (h : cartridgeClaims a = true) :
    busRead s a = (s.platform.cart.read a).getD 0xFF#8 := by
  have h' := h
  simp only [cartridgeClaims, Bool.or_eq_true, Bool.and_eq_true, decide_eq_true_eq] at h'
  have e0 : inVram a = false := by simp [inVram]; omega
  have e1 : inWorkRam a = false := by simp [inWorkRam]; omega
  have e2 : inEcho a = false := by simp [inEcho]; omega
  have e3 : inHighRam a = false := by simp [inHighRam]; omega
  have e4 : inOam a = false := by simp [inOam]; omega
  have e5 : a ≠ 0xFF00#16 := by rintro rfl; revert h; decide
  rw [busRead_eq hp]
  simp [participantRead, e1, e2, e3, cpuRead_none (s := s) (a := a) (by omega), Timer.read,
    timerRegAt_none (a := a) (by omega), Lcd.read, e0, e4, lcdRegAt_none (a := a) (by omega), Joypad.read, e5]

/-- A plain byte reads as written (R90). -/
theorem busRead_busWrite_self {s : State} (hp : DefaultPlatform s) (a : Addr) (v : Byte) (hm : s.memoryWf = true) (h : plainStorage a = true) :
    busRead (busWrite s a v) a = v := by
  simp only [State.memoryWf, Bool.and_eq_true] at hm
  obtain ⟨⟨⟨⟨⟨⟨hv, ho⟩, hw⟩, hh⟩, -⟩, -⟩, -⟩ := hm
  have hq : DefaultPlatform (busWrite s a v) := (congrArg Params.platform (busWrite_params s a v)).trans hp
  rcases plainStorage_cases h with h | h | h | h | h | h | h | ⟨r, hr, h⟩ | ⟨r, hr, hr', h⟩
  · rw [busRead_vram hq h, busWrite_lcd hp]
    simp only [lcdWrite, h, if_true]
    exact Memory.wf_load_store hv _ _
  · have e : inVram a = false := by
      simp only [inOam, Bool.and_eq_true, decide_eq_true_eq] at h
      simp [inVram]; omega
    rw [busRead_oam hq h, busWrite_lcd hp]
    simp only [lcdWrite, h, e, if_true, Bool.false_eq_true, if_false]
    exact Memory.wf_load_store ho _ _
  · rw [busRead_workRam hq h, busWrite_workRam hp]
    simp only [h, if_true]
    exact Memory.wf_load_store hw _ _
  · have e : inWorkRam a = false := by
      simp only [inEcho, Bool.and_eq_true, decide_eq_true_eq] at h
      simp [inWorkRam]; omega
    rw [busRead_echo hq h, busWrite_workRam hp]
    simp only [h, e, if_true, Bool.false_eq_true, if_false]
    exact Memory.wf_load_store hw _ _
  · rw [busRead_highRam hq h, busWrite_highRam hp]
    simp only [h, if_true]
    exact Memory.wf_load_store hh _ _
  · subst h
    rw [busRead_ie hq, busWrite_ie hp]
    rfl
  · subst h
    rw [busRead_iflag hq, busWrite_iflag_self hp]
  · subst h
    rw [busRead_timerReg hq, busWrite_timer hp]
    cases r
    · exact absurd rfl hr
    · rfl
    · rfl
    · show (incIfFalling _ _).timer.tac = v
      unfold incIfFalling
      repeat (first | rfl | split)
  · subst h
    rw [busRead_lcdReg hq, busWrite_lcd hp]
    cases r <;> first
      | exact absurd rfl hr
      | exact absurd rfl hr'
      | rfl
      | skip
    · show (writeLcdc s v).lcd.lcdc = v
      unfold writeLcdc
      dsimp only
      split
      · simp [lcdDisable, setLy, compareLy, Lcd.withMode]
      · rfl
    · show (writeLyc s v).lcd.lyc = v
      simp [writeLyc, compareLy]

/-- The second byte of a 16-bit store does not reach the first, if the first is a plain byte. -/
theorem writeReaches_succ (s : State) (a : Addr) (h : plainStorage a = true) : writeReaches s (a + 1#16) a = false := by
  have hc : cartridgeClaims a = false := by
    rcases plainStorage_cases h with h | h | h | h | h | h | h | ⟨r, hr, h⟩ | ⟨r, hr, hr', h⟩
    · simp only [inVram, Bool.and_eq_true, decide_eq_true_eq] at h; simp [cartridgeClaims]; omega
    · simp only [inOam, Bool.and_eq_true, decide_eq_true_eq] at h; simp [cartridgeClaims]; omega
    · simp only [inWorkRam, Bool.and_eq_true, decide_eq_true_eq] at h; simp [cartridgeClaims]; omega
    · simp only [inEcho, Bool.and_eq_true, decide_eq_true_eq] at h; simp [cartridgeClaims]; omega
    · simp only [inHighRam, Bool.and_eq_true, decide_eq_true_eq] at h; simp [cartridgeClaims]; omega
    · subst h; decide
    · subst h; decide
    · subst h; cases r <;> decide
    · subst h; cases r <;> decide
  have hne : a ≠ a + 1#16 := by bv_omega
  have h1 : (inWorkRam (a + 1#16) && inEcho a && (a == a + 1#16 + 0x2000#16)) = false := by
    have : a ≠ a + 1#16 + 0x2000#16 := by bv_omega
    simp [this]
  have h2 : (inEcho (a + 1#16) && inWorkRam a && (a == a + 1#16 - 0x2000#16)) = false := by
    have : a ≠ a + 1#16 - 0x2000#16 := by bv_omega
    simp [this]
  have h3 : ((a + 1#16 == 0xFF04#16 || a + 1#16 == 0xFF07#16) && (a == 0xFF05#16 || a == 0xFF0F#16)) = false := by
    by_cases k : a = 0xFF05#16
    · subst k; decide
    · by_cases k' : a = 0xFF0F#16
      · subst k'; decide
      · simp [k, k']
  have h4 : (a + 1#16 == 0xFF40#16 && (a == 0xFF41#16 || a == 0xFF44#16 || a == 0xFF0F#16)) = false := by
    by_cases k : a = 0xFF41#16
    · subst k; decide
    · by_cases k' : a = 0xFF0F#16
      · subst k'; decide
      · by_cases k'' : a = 0xFF44#16
        · subst k''; decide
        · simp [k, k', k'']
  have h5 : (a + 1#16 == 0xFF45#16 && (a == 0xFF41#16 || a == 0xFF0F#16)) = false := by
    by_cases k : a = 0xFF41#16
    · subst k; decide
    · by_cases k' : a = 0xFF0F#16
      · subst k'; decide
      · simp [k, k']
  simp only [writeReaches, h1, h2, h3, h4, h5, Bool.or_false, Bool.or_eq_false_iff, beq_eq_false_iff_ne, ne_eq]
  refine ⟨hne, ?_⟩
  cases s.platform.cart
  · rfl
  · simp [hc]

end Sys2Proof.Machine
end

