-- ==== Sys2Proof/Laws/Exec.lean ====
section
/-! SUPPORT. An instruction runs the operation of its row, and when a state is quiet or holds a store, in the terms of
Sys2Proof/Safety.lean. -/

namespace Sys2Proof.Machine

/-- Every arm of exec is the meaning of its row's operation. -/
theorem exec_eq_run (i : Instr) (s : State) : exec i s = Op.run i.op s := by cases i <;> rfl

/-- States with the same bus side hold the same devices and memory. -/
theorem quiet_of_sameBus {s t : State} (h : sameBus t s) : Quiet s t :=
  ⟨h.ie, h.iflag, h.timer, h.lcd, h.joypad, h.platform, busRead_congr h⟩

theorem devicesOf_of_sameBus {u t : State} (h : sameBus t u) : DevicesOf u t :=
  ⟨h.ie, h.iflag, h.timer, h.lcd, h.joypad, h.platform, busRead_congr h⟩

/-- A state with the bus side of s after one write holds the stored byte. -/
theorem storedByte_of_sameBus {s t : State} {a : Addr} {v : Byte} (h : sameBus t (busWrite s a v)) : StoredByte s t a v := by
  refine ⟨devicesOf_of_sameBus h, fun hd => ⟨fun hm hp => ?_, fun b hb => ?_⟩⟩
  · rw [busRead_congr h]; exact busRead_busWrite_self hd a v hm hp
  · rw [busRead_congr h]; exact busRead_busWrite_frame hd a b v hb

/-- No participant changes whether the cartridge is a plain image. -/
theorem participantWrite_writeReaches (s : State) (p : Participant) (a : Addr) (v : Byte) (c b : Addr) :
    writeReaches (participantWrite p s a v) c b = writeReaches s c b := by
  have key : ∀ t : State, t.platform.cart = s.platform.cart ∨ t.platform.cart = s.platform.cart.write a v →
      writeReaches t c b = writeReaches s c b := by
    intro t h
    unfold writeReaches
    rcases h with h | h <;> rw [h]
    cases s.platform.cart with
    | image rom => rfl
    | oracle l => by_cases hd : cartridgeClaims a <;> simp [Cartridge.write, hd]
  cases p
  case cartridge => exact key _ (.inr rfl)
  case timer => exact key _ (.inl (congrArg Platform.cart (timerWrite_platform s a v)))
  case lcd => exact key _ (.inl (congrArg Platform.cart (lcdWrite_platform s a v)))
  case joypad => exact key _ (.inl (congrArg Platform.cart (joypadWrite_platform s a v)))
  case cpu => refine key _ (.inl ?_); simp only [participantWrite, cpuWrite]; repeat (first | rfl | split)
  case rom => exact key _ (.inl rfl)
  all_goals refine key _ (.inl ?_); simp only [participantWrite]; split <;> rfl

/-- A write does not change which addresses a write reaches. -/
theorem writeReaches_busWrite (s : State) (a : Addr) (v : Byte) (c b : Addr) :
    writeReaches (busWrite s a v) c b = writeReaches s c b :=
  busWrite_keeps (fun t => writeReaches t c b) (fun s p a v => participantWrite_writeReaches s p a v c b) s a v

/-- A write to an LCD register leaves `vram` and `oam` alone. -/
theorem writeLcdReg_stores (s : State) (r : LcdReg) (v : Byte) :
    (writeLcdReg s r v).lcd.vram = s.lcd.vram ∧ (writeLcdReg s r v).lcd.oam = s.lcd.oam := by
  cases r <;> simp only [writeLcdReg, writeLcdc, writeStat, writeLyc, writeDma, lcdDisable, setLy, compareLy,
    Lcd.withMode] <;> first | exact ⟨rfl, rfl⟩ | (constructor <;> (repeat (first | rfl | split | simp)))

/-- Every write of the LCD controller keeps `vram` and `oam` in canonical form. -/
theorem lcdWrite_vramWf {s : State} (h : Memory.wf 8192 s.lcd.vram = true) (a : Addr) (v : Byte) :
    Memory.wf 8192 (lcdWrite s a v).lcd.vram = true := by
  unfold lcdWrite
  split
  · rename_i hb; simp only [inVram, Bool.and_eq_true, decide_eq_true_eq] at hb; exact Memory.wf_store h v (by omega)
  · split
    · exact h
    · split
      · rename_i r _; rw [(writeLcdReg_stores s r v).1]; exact h
      · exact h

theorem lcdWrite_oamWf {s : State} (h : Memory.wf 160 s.lcd.oam = true) (a : Addr) (v : Byte) :
    Memory.wf 160 (lcdWrite s a v).lcd.oam = true := by
  unfold lcdWrite
  split
  · exact h
  · split
    · rename_i hb; simp only [inOam, Bool.and_eq_true, decide_eq_true_eq] at hb; exact Memory.wf_store h v (by omega)
    · split
      · rename_i r _; rw [(writeLcdReg_stores s r v).2]; exact h
      · exact h

/-- Every participant keeps every memory in canonical form. -/
theorem participantWrite_memoryWf {s : State} (hm : s.memoryWf = true) (p : Participant) (a : Addr) (v : Byte) :
    (participantWrite p s a v).memoryWf = true := by
  have hm' := hm
  simp only [State.memoryWf, Bool.and_eq_true] at hm
  obtain ⟨⟨⟨⟨⟨⟨hv, ho⟩, hw⟩, hh⟩, hc⟩, hx⟩, hr⟩ := hm
  cases p <;> simp only [participantWrite]
  · split
    · rename_i h
      simp only [inWorkRam, Bool.and_eq_true, decide_eq_true_eq] at h
      simp only [State.memoryWf, Bool.and_eq_true]
      exact ⟨⟨⟨⟨⟨⟨hv, ho⟩, Memory.wf_store hw v (by omega)⟩, hh⟩, hc⟩, hx⟩, hr⟩
    · exact hm'
  · split
    · rename_i h
      simp only [inEcho, Bool.and_eq_true, decide_eq_true_eq] at h
      simp only [State.memoryWf, Bool.and_eq_true]
      exact ⟨⟨⟨⟨⟨⟨hv, ho⟩, Memory.wf_store hw v (by omega)⟩, hh⟩, hc⟩, hx⟩, hr⟩
    · exact hm'
  · unfold cpuWrite
    split
    · exact hm'
    · split <;> exact hm'
  · split
    · rename_i h
      simp only [inHighRam, Bool.and_eq_true, decide_eq_true_eq] at h
      simp only [State.memoryWf, Bool.and_eq_true]
      exact ⟨⟨⟨⟨⟨⟨hv, ho⟩, hw⟩, Memory.wf_store hh v (by omega)⟩, hc⟩, hx⟩, hr⟩
    · exact hm'
  · simpa only [State.memoryWf, timerWrite_lcd, timerWrite_platform] using hm'
  · simp only [State.memoryWf, lcdWrite_platform, Bool.and_eq_true]
    exact ⟨⟨⟨⟨⟨⟨lcdWrite_vramWf hv a v, lcdWrite_oamWf ho a v⟩, hw⟩, hh⟩, hc⟩, hx⟩, hr⟩
  · simpa only [State.memoryWf, joypadWrite_lcd, joypadWrite_platform] using hm'
  · simp only [State.memoryWf, Bool.and_eq_true]
    refine ⟨⟨⟨⟨⟨⟨hv, ho⟩, hw⟩, hh⟩, ?_⟩, hx⟩, hr⟩
    cases hc' : s.platform.cart with
    | image rom => rw [hc'] at hc; exact hc
    | oracle l => simp only [Cartridge.write]; split <;> rfl
  · split
    · rename_i k lo hi h
      have hk := k.isLt
      have ha := a.isLt
      simp only [State.memoryWf, Bool.and_eq_true]
      exact ⟨⟨⟨⟨⟨⟨hv, ho⟩, hw⟩, hh⟩, hc⟩, Memory.wf_store hx v (by simp only [placeOf]; omega)⟩, hr⟩
    · exact hm'
  · exact hm'
  · split <;> exact hm'

/-- A bus write keeps every memory in canonical form. -/
theorem busWrite_memoryWf {s : State} (hm : s.memoryWf = true) (a : Addr) (v : Byte) : (busWrite s a v).memoryWf = true :=
  busWrite_inv (P := fun t => t.memoryWf = true) (fun _ p a v h => participantWrite_memoryWf h p a v) hm a v

/-- The same of a 16-bit write. -/
theorem busWrite16_memoryWf {s : State} (hm : s.memoryWf = true) (a v : Addr) : (busWrite16 s a v).memoryWf = true :=
  busWrite_memoryWf (busWrite_memoryWf hm _ _) _ _

/-- A state with the bus side of s after a 16-bit write holds the stored value. -/
theorem storedWord_of_sameBus {s t : State} {a v : Addr} (h : sameBus t (busWrite16 s a v)) : StoredWord s t a v := by
  refine ⟨devicesOf_of_sameBus h, fun hd => ?_⟩
  have he : DefaultPlatform (busWrite s a (lowByte v)) := (congrArg Params.platform (busWrite_params s a _)).trans hd
  refine ⟨fun hm hp => ?_, fun hm hp => ?_, fun b hb hc => ?_⟩
  · rw [busRead_congr h]
    simp only [busWrite16]
    rw [busRead_busWrite_frame he _ _ _ (by rw [writeReaches_busWrite]; exact writeReaches_succ s a hp),
      busRead_busWrite_self hd _ _ hm hp]
    rfl
  · rw [busRead_congr h]
    exact busRead_busWrite_self he _ _ (busWrite_memoryWf hm _ _) hp
  · rw [busRead_congr h]
    simp only [busWrite16]
    rw [busRead_busWrite_frame he _ _ _ (by rw [writeReaches_busWrite]; exact hc), busRead_busWrite_frame hd _ _ _ hb]

/-- A push stores the value below sp. -/
theorem storedWord_push16 {s t : State} {v : Addr} (h : sameBus t (push16 s v)) : StoredWord s t (s.cpu.sp - 2#16) v :=
  storedWord_of_sameBus (h.trans (busWrite16_congr (sameBus_setSp s _) _ _))

end Sys2Proof.Machine
end

