-- ==== Sys2Proof/Laws/Image.lean ====
section
/-! SUPPORT. What the image operations do to one column, and the layers of sprites. -/

namespace Sys2Proof

/-- Bit x of a shifted vector (`64_lcd_image.md` R575). -/
theorem BitVector.getLsbD_shift {w : Nat} (v : BitVec w) (d : Int) {x : Nat} (hx : x < w) :
    (BitVector.shift v d).getLsbD x = (decide (d ≤ x) && v.getLsbD ((x : Int) - d).toNat) := by
  have bit : ∀ n : Nat, (BitVec.ofNat w n).getLsbD x = n.testBit x := fun n => by
    rw [BitVec.getLsbD_ofNat, decide_eq_true hx, Bool.true_and]
  unfold BitVector.shift BitVector.extractZeroExtended
  split
  · rw [bit, Nat.testBit_shiftRight, BitVec.testBit_toNat, decide_eq_true (by omega : d ≤ (x : Int)), Bool.true_and,
      show ((x : Int) - d).toNat = (-d).toNat + x by omega]
  · split
    · rw [bit, Nat.testBit_shiftLeft, BitVec.testBit_toNat, Int.neg_neg, show ((x : Int) - d).toNat = x - d.toNat by omega,
        show decide (x ≥ d.toNat) = decide (d ≤ (x : Int)) from decide_eq_decide.mpr (by omega)]
    · rw [decide_eq_false (by omega : ¬d ≤ (x : Int)), Bool.false_and]
      exact BitVec.getLsbD_zero

namespace LcdLine

theorem opaqueAt_mapColors {w : Nat} (l : LcdLine w) (p : Byte) (x : Nat) : (l.mapColors p).opaqueAt x = l.opaqueAt x := rfl

/-- The colour of a remapped line is the palette's entry for the line's colour (R585). -/
theorem colour_mapColors {w : Nat} (l : LcdLine w) (p : Byte) {x : Nat} (hx : x < w) :
    (l.mapColors p).colour x = (p.toNat >>> (2 * l.colour x)) % 4 := by
  have hd : decide (x < w) = true := decide_eq_true hx
  have plane : ∀ j, (l.palettePlane p j).getLsbD x = p.getLsbD (2 * l.colour x + j) := by
    intro j
    simp only [palettePlane, List.range_succ, List.range_zero, List.nil_append, List.foldl_append, List.foldl_cons,
      List.foldl_nil, colour]
    cases hm : l.msb.getLsbD x <;> cases hl : l.lsb.getLsbD x <;>
      cases h0 : p.getLsbD (2 * 0 + j) <;> cases h1 : p.getLsbD (2 * 1 + j) <;> cases h2 : p.getLsbD (2 * 2 + j) <;>
      cases h3 : p.getLsbD (2 * 3 + j) <;>
      simp_all [colourPlane, -BitVec.getLsbD_eq_getElem]
  have entry : ∀ (q : Byte) k, k < 4 → 2 * (q.getLsbD (2 * k + 1)).toNat + (q.getLsbD (2 * k + 0)).toNat = (q.toNat >>> (2 * k)) % 4 := by
    decide +kernel
  have hk : l.colour x < 4 := by
    unfold colour
    cases l.msb.getLsbD x <;> cases l.lsb.getLsbD x <;> decide
  rw [← entry p _ hk]
  simp only [colour, mapColors] at plane ⊢
  rw [plane, plane]

/-- A line under another shows the upper one where that is opaque (R587). -/
theorem colour_below {w : Nat} (l t : LcdLine w) {x : Nat} (hx : x < w) :
    (l.below t).colour x = if t.opaqueAt x then t.colour x else l.colour x := by
  simp only [below, belowWith, colour, opaqueAt, BitVec.getLsbD_or, BitVec.getLsbD_and, BitVec.getLsbD_not, decide_eq_true hx]
  by_cases h : t.opacity.getLsbD x = true <;> simp [h]

theorem opaqueAt_below {w : Nat} (l t : LcdLine w) (x : Nat) : (l.below t).opaqueAt x = (l.opaqueAt x || t.opaqueAt x) := by
  simp only [below, belowWith, opaqueAt, BitVec.getLsbD_or]

end LcdLine

namespace Machine

/-- Adding a sprite to a layer (`63_lcd_controller.md` R528). -/
theorem Lcd.spriteLayer_append (l : Lcd) (s : List Nat) (i y : Nat) (p : Bool) :
    l.spriteLayer (s ++ [i]) y p =
      if (l.spriteAttr i).getLsbD 7 = p then (l.spriteLine i y).below (l.spriteLayer s y p) else l.spriteLayer s y p := by
  simp only [Lcd.spriteLayer, List.foldl_append, List.foldl_cons, List.foldl_nil]

end Machine

end Sys2Proof
end

