-- ==== Sys2Proof/Laws/Registers.lean ====
section
/-! SUPPORT. On any platform: the participants that do not claim an address play no part in an access to it, and a bus access to
an address that one device alone claims is that device's access and nothing else. -/

namespace Sys2Proof.Machine

/-- A cartridge takes no write outside its claims. -/
theorem Cartridge.write_unclaimed (c : Cartridge) {a : Addr} (v : Byte) (h : cartridgeClaims a = false) : c.write a v = c := by
  cases c with
  | image => rfl
  | oracle => simp [Cartridge.write, h]

/-- A participant ignores a write outside its claims (`20_memory.md` R84 to R87, R91, R92). -/
theorem participantWrite_unclaimed {p : Participant} {a : Addr} (h : participantClaims p a = false) (s : State) (v : Byte) :
    participantWrite p s a v = s := by
  cases p <;> simp only [participantClaims, Bool.or_eq_false_iff, beq_eq_false_iff_ne, Option.isSome_eq_false_iff, Option.isNone_iff_eq_none] at h
  · simp [participantWrite, h]
  · simp [participantWrite, h]
  · simp [participantWrite, cpuWrite, h]
  · simp [participantWrite, h]
  · simp [participantWrite, timerWrite, h]
  · simp [participantWrite, lcdWrite, h]
  · simp [participantWrite, joypadWrite, h]
  · simp [participantWrite, Cartridge.write_unclaimed _ v h]
  · simp [participantWrite, h]
  · rfl
  · simp [participantWrite, h]

/-- A participant answers NO_DATA outside its claims. -/
theorem participantRead_unclaimed {p : Participant} {a : Addr} (h : participantClaims p a = false) (s : State) :
    participantRead p s a = none := by
  cases p <;> simp only [participantClaims, Bool.or_eq_false_iff, beq_eq_false_iff_ne, Option.isSome_eq_false_iff, Option.isNone_iff_eq_none] at h
  · simp [participantRead, h]
  · simp [participantRead, h]
  · simp [participantRead, Cpu.read, h]
  · simp [participantRead, h]
  · simp [participantRead, Timer.read, h]
  · simp [participantRead, Lcd.read, h]
  · simp [participantRead, Joypad.read, h]
  · simp only [participantRead]
    cases s.platform.cart with
    | image rom =>
      simp only [cartridgeClaims, Bool.or_eq_false_iff, decide_eq_false_iff_not] at h
      simp [Cartridge.read, h.1]
    | oracle hist => simp [Cartridge.read, h]
  · simp [participantRead, h]
  · simp [participantRead, h]
  · simp [participantRead, h]

/-- A write is a write to the claimants, in attachment order (R83). -/
theorem busWrite_claimants (s : State) (a : Addr) (v : Byte) :
    busWrite s a v = (s.claimants a).foldl (fun t p => participantWrite p t a v) s := by
  have key : ∀ (ps : List Participant) (t : State), ps.foldl (fun u p => participantWrite p u a v) t =
      (ps.filter (fun p => participantClaims p a)).foldl (fun u p => participantWrite p u a v) t := by
    intro ps
    induction ps with
    | nil => exact fun _ => rfl
    | cons p ps ih =>
      intro t
      cases h : participantClaims p a
      · simp only [List.foldl_cons, participantWrite_unclaimed h, List.filter_cons, h, ih, Bool.false_eq_true, if_false]
      · simp only [List.foldl_cons, List.filter_cons, h, ih, if_true]
  exact key _ s

/-- A read is the first answer of the claimants (R82). -/
theorem busRead_claimants (s : State) (a : Addr) :
    busRead s a = ((s.claimants a).findSome? (fun p => participantRead p s a)).getD 0xFF#8 := by
  have key : ∀ ps : List Participant, ps.findSome? (fun p => participantRead p s a) =
      (ps.filter (fun p => participantClaims p a)).findSome? (fun p => participantRead p s a) := by
    intro ps
    induction ps with
    | nil => rfl
    | cons p ps ih =>
      cases h : participantClaims p a
      · simp only [List.findSome?_cons, participantRead_unclaimed h, List.filter_cons, h, ih, Bool.false_eq_true, if_false]
      · simp only [List.findSome?_cons, List.filter_cons, h, ih, if_true]
  rw [busRead, key]
  rfl

/-- A write to an address nobody claims changes nothing (R83). -/
theorem busWrite_nobody {s : State} {a : Addr} (h : s.claimants a = []) (v : Byte) : busWrite s a v = s := by
  rw [busWrite_claimants, h]; rfl

/-- A read of an address nobody claims is 0xFF (R82). -/
theorem busRead_nobody {s : State} {a : Addr} (h : s.claimants a = []) : busRead s a = 0xFF#8 := by
  rw [busRead_claimants, h]; rfl

/-- A write to an address one participant alone claims. -/
theorem busWrite_only {s : State} {a : Addr} {p : Participant} (h : s.claimants a = [p]) (v : Byte) :
    busWrite s a v = participantWrite p s a v := by
  rw [busWrite_claimants, h]; rfl

/-- A read of an address one participant alone claims. -/
theorem busRead_only {s : State} {a : Addr} {p : Participant} (h : s.claimants a = [p]) :
    busRead s a = (participantRead p s a).getD 0xFF#8 := by
  rw [busRead_claimants, h]
  simp only [List.findSome?_cons, List.findSome?_nil]
  cases participantRead p s a <;> rfl

/-- A bus write to a Timer register (`62_timer.md` R472). -/
theorem busWrite_timerReg {s : State} {r : TimerReg} (h : s.claimants r.addr = [.timer]) (v : Byte) :
    busWrite s r.addr v = writeTimerReg s r v := by
  rw [busWrite_only h, participantWrite, timerWrite, timerRegAt_addr]

/-- A bus write to an LCD register (`63_lcd_controller.md` R495). -/
theorem busWrite_lcdReg {s : State} {r : LcdReg} (h : s.claimants r.addr = [.lcd]) (v : Byte) :
    busWrite s r.addr v = writeLcdReg s r v := by
  rw [busWrite_only h]
  cases r <;> rfl

/-- A bus read of a Timer register (`62_timer.md` R471). -/
theorem busRead_timerReg_claimed {s : State} {r : TimerReg} (h : s.claimants r.addr = [.timer]) :
    busRead s r.addr = s.timer.readReg r := by
  rw [busRead_only h]
  cases r <;> rfl

/-- A bus read of an LCD register (`63_lcd_controller.md` R494). -/
theorem busRead_lcdReg_claimed {s : State} {r : LcdReg} (h : s.claimants r.addr = [.lcd]) :
    busRead s r.addr = s.lcd.readReg r := by
  rw [busRead_only h]
  cases r <;> rfl

/-- A bus write to the joypad register (`65_joypad.md` R612). -/
theorem busWrite_p1 {s : State} (h : s.claimants 0xFF00#16 = [.joypad]) (v : Byte) :
    busWrite s 0xFF00#16 v = joypadWrite s 0xFF00#16 v := busWrite_only h v

/-- A bus read of the joypad register (`65_joypad.md` R611). -/
theorem busRead_p1 {s : State} (h : s.claimants 0xFF00#16 = [.joypad]) : busRead s 0xFF00#16 = ~~~s.joypad.p1int :=
  busRead_only h

/-- On the default platform every register has one claimant (R90, R91). -/
theorem claimants_default {s : State} (hp : DefaultPlatform s) (a : Addr) :
    s.claimants a = Config.platform.filter (fun p => participantClaims p a) := by rw [State.claimants, hp]

theorem claimants_timerReg {s : State} (hp : DefaultPlatform s) (r : TimerReg) : s.claimants r.addr = [.timer] := by
  rw [claimants_default hp]; cases r <;> rfl

theorem claimants_lcdReg {s : State} (hp : DefaultPlatform s) (r : LcdReg) : s.claimants r.addr = [.lcd] := by
  rw [claimants_default hp]; cases r <;> rfl

theorem claimants_p1 {s : State} (hp : DefaultPlatform s) : s.claimants 0xFF00#16 = [.joypad] := by
  rw [claimants_default hp]; rfl

end Sys2Proof.Machine
end

