-- ==== Sys2Proof/Laws/Shapes.lean ====
section
/-! SUPPORT. What the instructions of each shape do, said once: the destination, the flags, and everything that stays as it was. The
meanings of Sys2Proof/Machine are `.next` of the states named here. -/

namespace Sys2Proof.Machine

/-- The state an instruction's operation answers is the state exec answers. -/
theorem exec_next {i : Instr} {o : Op} {s t : State} {P : State → Prop} (h : i.op = o) (hr : Op.run o s = .next t) (p : P t) :
    ∃ t, exec i s = .next t ∧ P t := ⟨t, by rw [exec_eq_run, h, hr], p⟩

/-- The COST table is one of the parameters. -/
theorem descriptor_congr {s t : State} (h : t.params = s.params) (o : Op) : t.descriptor o = s.descriptor o := by
  rw [State.descriptor, State.descriptor, h]

theorem regsBut_setR8 (s : State) (r : R8) (v : Byte) : RegsBut [r.reg] s (s.setR8 r v) := by
  intro q hq
  exact Regs.get_set_ne _ _ _ _ (by simpa using hq)

theorem regsBut_setFlags (s : State) (t : FlagTuple) (f : Flags) : RegsBut [.f] s (s.setFlags t f) := by
  intro q hq
  exact Regs.get_set_ne _ _ _ _ (by simpa using hq)

theorem regsBut_setFlags_setR8 (s : State) (t : FlagTuple) (f : Flags) (r : R8) (v : Byte) :
    RegsBut [r.reg, .f] s ((s.setFlags t f).setR8 r v) := by
  intro q hq
  simp only [List.mem_cons, List.not_mem_nil, or_false, not_or] at hq
  exact (Regs.get_set_ne _ _ _ _ hq.1).trans (Regs.get_set_ne _ _ _ _ hq.2)

theorem regsBut_setPair (s : State) (p : Pair) (v : Addr) : RegsBut [(Pair.regs p).1, (Pair.regs p).2] s (s.setPair p v) := by
  intro q hq
  simp only [List.mem_cons, List.not_mem_nil, or_false, not_or] at hq
  exact (Regs.get_set_ne _ _ _ _ hq.2).trans (Regs.get_set_ne _ _ _ _ hq.1)

theorem regsBut_setFlags_setHl (s : State) (t : FlagTuple) (f : Flags) (v : Addr) :
    RegsBut [.h, .l, .f] s ((s.setFlags t f).setPair .hl v) := by
  intro q hq
  simp only [List.mem_cons, List.not_mem_nil, or_false, not_or] at hq
  exact (Regs.get_set_ne _ _ _ _ hq.2.1).trans ((Regs.get_set_ne _ _ _ _ hq.1).trans (Regs.get_set_ne _ _ _ _ hq.2.2))

theorem regsBut_busWrite (s : State) (a : Addr) (v : Byte) : RegsBut [] s (busWrite s a v) := by
  intro q _
  simp only [State.reg, busWrite_regs]

theorem regsBut_push16 (s : State) (v : Addr) : RegsBut [] s (push16 s v) := by
  intro q _
  simp only [State.reg, push16_regs]

theorem regsBut_setFlags_busWrite (s : State) (t : FlagTuple) (f : Flags) (a : Addr) (v : Byte) :
    RegsBut [.f] s (busWrite (s.setFlags t f) a v) := by
  intro q hq
  simp only [State.reg, busWrite_regs]
  exact regsBut_setFlags s t f q hq

/-- The low nibble of the flag mask is 0. -/
theorem flagsClean_mask (f : Flags) : Alu.maskZNHC f &&& 0xF0#8 &&& 0x0F#8 = 0#8 := by
  obtain ⟨z, n, h, c⟩ := f
  cases z <;> cases n <;> cases h <;> cases c <;> decide

theorem flagsClean_setFlags (s : State) (t : FlagTuple) (f : Flags) : FlagsClean (s.setFlags t f) := flagsClean_mask _

theorem flagsClean_setR8 {s : State} (h : FlagsClean s) (r : R8) (v : Byte) : FlagsClean (s.setR8 r v) := by
  cases r <;> exact h

theorem flagsClean_busWrite {s : State} (h : FlagsClean s) (a : Addr) (v : Byte) : FlagsClean (busWrite s a v) := by
  simpa [FlagsClean, State.reg] using h

@[simp] theorem flags_busWrite (s : State) (a : Addr) (v : Byte) : (busWrite s a v).flags = s.flags := by
  simp only [State.flags, busWrite_regs]

@[simp] theorem flags_setHl (s : State) (v : Addr) : (s.setPair .hl v).flags = s.flags := rfl

@[simp] theorem r8_setR8 (s : State) (r : R8) (v : Byte) : (s.setR8 r v).r8 r = v := by cases r <;> rfl

/-- A register loaded, no flag. -/
theorem load_shape (s : State) (r : R8) (v : Byte) (o : Op) :
    ((s.setR8 r v).retire o).r8 r = v ∧ RegsBut [r.reg] s ((s.setR8 r v).retire o) ∧
      KeepsSpIme s ((s.setR8 r v).retire o) ∧ Quiet s ((s.setR8 r v).retire o) ∧
      FallsThrough s ((s.setR8 r v).retire o) o :=
  ⟨r8_setR8 s r v, regsBut_setR8 s r v, ⟨rfl, rfl⟩, quiet_of_sameBus ⟨rfl, rfl, rfl, rfl, rfl, rfl, rfl⟩, ⟨rfl, rfl, rfl, rfl, rfl⟩⟩

/-- A byte stored, no register, no flag. -/
theorem store_shape (s : State) (a : Addr) (v : Byte) (o : Op) :
    StoredByte s ((busWrite s a v).retire o) a v ∧ RegsBut [] s ((busWrite s a v).retire o) ∧
      KeepsSpIme s ((busWrite s a v).retire o) ∧
      FallsThrough s ((busWrite s a v).retire o) o := by
  refine ⟨storedByte_of_sameBus (sameBus_finish _ _ _), regsBut_busWrite s a v, ⟨busWrite_sp s a v, busWrite_ime s a v⟩, ?_⟩
  have hd := descriptor_congr (busWrite_params s a v) o
  refine ⟨?_, ?_, busWrite_cyc s a v, busWrite_fault s a v, busWrite_params s a v⟩
  · exact congr (congrArg (fun p (d : Descriptor) => p + BitVec.ofNat 16 d.length) (busWrite_pc s a v)) hd
  · exact congr (congrArg (fun n (d : Descriptor) => some (n + d.cycles)) (busWrite_cyc s a v)) hd

/-- A register computed with its flags. -/
theorem compute_shape (s : State) (t : FlagTuple) (f : Flags) (r : R8) (v : Byte) (o : Op) :
    (((s.setFlags t f).setR8 r v).retire o).r8 r = v ∧ (((s.setFlags t f).setR8 r v).retire o).flags = t.pick f s.flags ∧
      FlagsClean (((s.setFlags t f).setR8 r v).retire o) ∧ RegsBut [r.reg, .f] s (((s.setFlags t f).setR8 r v).retire o) ∧
      KeepsSpIme s (((s.setFlags t f).setR8 r v).retire o) ∧ Quiet s (((s.setFlags t f).setR8 r v).retire o) ∧
      FallsThrough s (((s.setFlags t f).setR8 r v).retire o) o :=
  ⟨r8_setR8 _ r v, (flags_setR8 (s.setFlags t f) r v).trans (flags_setFlags s t f),
    flagsClean_setR8 (flagsClean_setFlags s t f) r v, regsBut_setFlags_setR8 s t f r v, ⟨rfl, rfl⟩,
    quiet_of_sameBus ⟨rfl, rfl, rfl, rfl, rfl, rfl, rfl⟩, ⟨rfl, rfl, rfl, rfl, rfl⟩⟩

/-- Flags alone. -/
theorem flags_shape (s : State) (t : FlagTuple) (f : Flags) (o : Op) :
    ((s.setFlags t f).retire o).flags = t.pick f s.flags ∧ FlagsClean ((s.setFlags t f).retire o) ∧
      RegsBut [.f] s ((s.setFlags t f).retire o) ∧ KeepsSpIme s ((s.setFlags t f).retire o) ∧
      Quiet s ((s.setFlags t f).retire o) ∧
      FallsThrough s ((s.setFlags t f).retire o) o :=
  ⟨flags_setFlags s t f, flagsClean_setFlags s t f, regsBut_setFlags s t f, ⟨rfl, rfl⟩,
    quiet_of_sameBus ⟨rfl, rfl, rfl, rfl, rfl, rfl, rfl⟩, ⟨rfl, rfl, rfl, rfl, rfl⟩⟩

/-- A byte in memory computed with its flags. -/
theorem modify_shape (s : State) (t : FlagTuple) (f : Flags) (a : Addr) (v : Byte) (o : Op) :
    StoredByte s ((busWrite (s.setFlags t f) a v).retire o) a v ∧
      ((busWrite (s.setFlags t f) a v).retire o).flags = t.pick f s.flags ∧
      FlagsClean ((busWrite (s.setFlags t f) a v).retire o) ∧ RegsBut [.f] s ((busWrite (s.setFlags t f) a v).retire o) ∧
      KeepsSpIme s ((busWrite (s.setFlags t f) a v).retire o) ∧
      FallsThrough s ((busWrite (s.setFlags t f) a v).retire o) o := by
  have h := store_shape (s.setFlags t f) a v o
  refine ⟨storedByte_of_sameBus ((sameBus_finish _ _ _).trans (busWrite_congr (sameBus_setFlags s t f) a v)), ?_, ?_, ?_,
    h.2.2.1, h.2.2.2⟩
  · exact (flags_busWrite (s.setFlags t f) a v).trans (flags_setFlags s t f)
  · exact flagsClean_busWrite (flagsClean_setFlags s t f) a v
  · exact regsBut_setFlags_busWrite s t f a v

/-- HL computed with the flags. -/
theorem computeHl_shape (s : State) (t : FlagTuple) (f : Flags) (v : Addr) (o : Op) :
    (((s.setFlags t f).setPair .hl v).retire o).pair .hl = v ∧
      (((s.setFlags t f).setPair .hl v).retire o).flags = t.pick f s.flags ∧
      FlagsClean (((s.setFlags t f).setPair .hl v).retire o) ∧
      RegsBut [.h, .l, .f] s (((s.setFlags t f).setPair .hl v).retire o) ∧
      KeepsSpIme s (((s.setFlags t f).setPair .hl v).retire o) ∧ Quiet s (((s.setFlags t f).setPair .hl v).retire o) ∧
      FallsThrough s (((s.setFlags t f).setPair .hl v).retire o) o :=
  ⟨pair_setPair (s.setFlags t f) .hl v (by decide), (flags_setHl (s.setFlags t f) v).trans (flags_setFlags s t f),
    flagsClean_setFlags s t f, regsBut_setFlags_setHl s t f v, ⟨rfl, rfl⟩,
    quiet_of_sameBus ⟨rfl, rfl, rfl, rfl, rfl, rfl, rfl⟩, ⟨rfl, rfl, rfl, rfl, rfl⟩⟩

/-- A pair loaded, no flag. -/
theorem loadPair_shape (s : State) (p : Pair) (v : Addr) (o : Op) (hp : p ≠ .af) :
    ((s.setPair p v).retire o).pair p = v ∧ RegsBut [(Pair.regs p).1, (Pair.regs p).2] s ((s.setPair p v).retire o) ∧
      KeepsSpIme s ((s.setPair p v).retire o) ∧ Quiet s ((s.setPair p v).retire o) ∧
      FallsThrough s ((s.setPair p v).retire o) o :=
  ⟨pair_setPair s p v hp, regsBut_setPair s p v, ⟨rfl, rfl⟩, quiet_of_sameBus ⟨rfl, rfl, rfl, rfl, rfl, rfl, rfl⟩,
    ⟨rfl, rfl, rfl, rfl, rfl⟩⟩

/-- A transfer of control that pushes. -/
theorem pushing_shape (s : State) (v target : Addr) (cost : Nat) :
    ((push16 s v).finish target cost).cpu.sp = s.cpu.sp - 2#16 ∧
      StoredWord s ((push16 s v).finish target cost) (s.cpu.sp - 2#16) v ∧ RegsBut [] s ((push16 s v).finish target cost) ∧
      ((push16 s v).finish target cost).cpu.ime = s.cpu.ime ∧ Ends s ((push16 s v).finish target cost) target cost := by
  refine ⟨push16_sp s v, storedWord_push16 (sameBus_finish _ _ _), regsBut_push16 s v, push16_ime s v, rfl, ?_, push16_cyc s v,
    push16_fault s v, push16_params s v⟩
  exact congrArg (fun n => some (n + cost)) (push16_cyc s v)

/-- A transfer of control that only jumps. -/
theorem jumping_shape (s : State) (target : Addr) (cost : Nat) :
    RegsBut [] s (s.finish target cost) ∧ KeepsSpIme s (s.finish target cost) ∧ Quiet s (s.finish target cost) ∧
      Ends s (s.finish target cost) target cost :=
  ⟨fun _ _ => rfl, ⟨rfl, rfl⟩, quiet_of_sameBus ⟨rfl, rfl, rfl, rfl, rfl, rfl, rfl⟩, ⟨rfl, rfl, rfl, rfl, rfl⟩⟩

/-! The 8-bit operations on A. -/

theorem aluA_ne_cp (s : State) (o : AluOp) (x : Byte) (h : o ≠ .cp) :
    s.aluA o x =
      (s.setFlags (aluTuple o) (aluFn o (s.r8 .a) x s.flags.c).f).setR8 .a (aluFn o (s.r8 .a) x s.flags.c).v := by
  cases o <;> first | rfl | exact absurd rfl h

/-- An 8-bit operation: A but for CP, and the flags. -/
theorem aluA_shape (s : State) (o : AluOp) (x : Byte) (p : Op) :
    ((s.aluA o x).retire p).reg .a = (if o = .cp then s.reg .a else (aluFn o (s.reg .a) x s.flags.c).v) ∧
      ((s.aluA o x).retire p).flags = (aluTuple o).pick (aluFn o (s.reg .a) x s.flags.c).f s.flags ∧
      FlagsClean ((s.aluA o x).retire p) ∧ RegsBut [.a, .f] s ((s.aluA o x).retire p) ∧
      KeepsSpIme s ((s.aluA o x).retire p) ∧ Quiet s ((s.aluA o x).retire p) ∧
      FallsThrough s ((s.aluA o x).retire p) p := by
  by_cases h : o = .cp
  · subst h
    obtain ⟨h1, h2, h3, h4⟩ := flags_shape s (aluTuple .cp) (aluFn .cp (s.r8 .a) x s.flags.c).f p
    refine ⟨rfl, h1, h2, fun r hr => h3 r fun k => hr ?_, h4⟩
    exact List.mem_cons_of_mem _ k
  · rw [aluA_ne_cp s o x h, if_neg h]
    exact compute_shape s (aluTuple o) (aluFn o (s.r8 .a) x s.flags.c).f .a (aluFn o (s.r8 .a) x s.flags.c).v p

end Sys2Proof.Machine
end

