-- ==== Sys2Proof/Laws/Step.lean ====
section
/-! SUPPORT. What one step can do: the fields that the parts of a step leave alone, and the cases of a step. -/

namespace Sys2Proof.Machine

/-! The devices. -/

@[simp] theorem devicesStep_params (s : State) : (devicesStep s).params = s.params := by
  simp only [devicesStep, lcdStep_params, timerStep_params]
@[simp] theorem devicesStep_cyc (s : State) : (devicesStep s).cyc = s.cyc := by
  simp only [devicesStep, lcdStep_cyc, timerStep_cyc]
@[simp] theorem devicesStep_fault (s : State) : (devicesStep s).fault = s.fault := by
  simp only [devicesStep, lcdStep_fault, timerStep_fault]
@[simp] theorem devicesStep_regs (s : State) : (devicesStep s).cpu.regs = s.cpu.regs := by
  simp only [devicesStep, lcdStep_regs, timerStep_regs]
@[simp] theorem devicesStep_pc (s : State) : (devicesStep s).cpu.pc = s.cpu.pc := by
  simp only [devicesStep, lcdStep_pc, timerStep_pc]
@[simp] theorem devicesStep_sp (s : State) : (devicesStep s).cpu.sp = s.cpu.sp := by
  simp only [devicesStep, lcdStep_sp, timerStep_sp]
@[simp] theorem devicesStep_ime (s : State) : (devicesStep s).cpu.ime = s.cpu.ime := by
  simp only [devicesStep, lcdStep_ime, timerStep_ime]
@[simp] theorem devicesStep_next (s : State) : (devicesStep s).cpu.next = s.cpu.next := by
  simp only [devicesStep, lcdStep_next, timerStep_next]
@[simp] theorem devicesStep_ie (s : State) : (devicesStep s).cpu.ie = s.cpu.ie := by
  simp only [devicesStep, lcdStep_ie, timerStep_ie]
@[simp] theorem devicesStep_joypad (s : State) : (devicesStep s).joypad = s.joypad := by
  simp only [devicesStep, lcdStep_joypad, timerStep_joypad]
@[simp] theorem devicesStep_platform (s : State) : (devicesStep s).platform = s.platform := by
  simp only [devicesStep, lcdStep_platform, timerStep_platform]
@[simp] theorem devicesStep_timer (s : State) : (devicesStep s).timer = (timerStep s).timer := by
  simp only [devicesStep, lcdStep_timer]

/-! The wake test and the counter. -/

@[simp] theorem wake_params (s : State) : (wake s).params = s.params := by unfold wake; split <;> rfl
@[simp] theorem wake_cyc (s : State) : (wake s).cyc = s.cyc := by unfold wake; split <;> rfl
@[simp] theorem wake_fault (s : State) : (wake s).fault = s.fault := by unfold wake; split <;> rfl
@[simp] theorem wake_regs (s : State) : (wake s).cpu.regs = s.cpu.regs := by unfold wake; split <;> rfl
@[simp] theorem wake_pc (s : State) : (wake s).cpu.pc = s.cpu.pc := by unfold wake; split <;> rfl
@[simp] theorem wake_sp (s : State) : (wake s).cpu.sp = s.cpu.sp := by unfold wake; split <;> rfl
@[simp] theorem wake_ime (s : State) : (wake s).cpu.ime = s.cpu.ime := by unfold wake; split <;> rfl
@[simp] theorem wake_ie (s : State) : (wake s).cpu.ie = s.cpu.ie := by unfold wake; split <;> rfl
@[simp] theorem wake_joypad (s : State) : (wake s).joypad = s.joypad := by unfold wake; split <;> rfl
@[simp] theorem wake_platform (s : State) : (wake s).platform = s.platform := by unfold wake; split <;> rfl
@[simp] theorem wake_iflag (s : State) : (wake s).cpu.iflag = s.cpu.iflag := by unfold wake; split <;> rfl
@[simp] theorem wake_timer (s : State) : (wake s).timer = s.timer := by unfold wake; split <;> rfl
@[simp] theorem wake_lcd (s : State) : (wake s).lcd = s.lcd := by unfold wake; split <;> rfl

@[simp] theorem advance_params (s : State) : (advance s).params = s.params := by unfold advance; split <;> rfl
@[simp] theorem advance_cpu (s : State) : (advance s).cpu = s.cpu := by unfold advance; split <;> rfl
@[simp] theorem advance_fault (s : State) : (advance s).fault = s.fault := by unfold advance; split <;> rfl
@[simp] theorem advance_timer (s : State) : (advance s).timer = s.timer := by unfold advance; split <;> rfl
@[simp] theorem advance_lcd (s : State) : (advance s).lcd = s.lcd := by unfold advance; split <;> rfl
@[simp] theorem advance_joypad (s : State) : (advance s).joypad = s.joypad := by unfold advance; split <;> rfl
@[simp] theorem advance_platform (s : State) : (advance s).platform = s.platform := by unfold advance; split <;> rfl

theorem advance_cyc (s : State) : (advance s).cyc = if s.fault = none then s.cyc + 1 else s.cyc := by
  unfold advance; split <;> rfl

/-- The wake test changes nothing that the bus sees. -/
theorem sameBus_wake (s : State) : sameBus (wake s) s := by
  unfold wake; split <;> exact ⟨rfl, rfl, rfl, rfl, rfl, rfl, rfl⟩

/-- The service of an interrupt changes no read-only region (`10_state.md` R40). -/
@[simp] theorem serviceInterrupt_rom (s : State) : (serviceInterrupt s).platform.rom = s.platform.rom := by
  unfold serviceInterrupt
  split <;> simp [takeInterrupt, acknowledge, State.finish]

/-! Steps. -/

/-- Every instruction answers a next state. -/
theorem exec_isNext (i : Instr) (s : State) : ∃ t, exec i s = .next t := by
  rw [exec_eq_run]
  generalize i.op = o
  cases o <;> first
    | exact ⟨_, rfl⟩
    | (simp only [Op.run, jumpAbsIf, jumpRelIf, callAbsIf, returnIf]; split <;> exact ⟨_, rfl⟩)

@[simp] theorem stepHl_params (s : State) (m : R16mem) : (s.stepHl m).params = s.params := by cases m <;> rfl
@[simp] theorem setR16sp_params (s : State) (p : R16sp) (v : Addr) : (s.setR16sp p v).params = s.params := by cases p <;> rfl
@[simp] theorem aluA_params (s : State) (o : AluOp) (x : Byte) : (s.aluA o x).params = s.params := by cases o <;> rfl

/-- No instruction changes the parameters (`10_state.md` R41). -/
theorem exec_params {i : Instr} {s t : State} (h : exec i s = .next t) : t.params = s.params := by
  rw [exec_eq_run] at h
  generalize i.op = o at h
  cases o <;> first
    | (injection h with h; subst h; simp [State.retire, State.jump, State.finish, returnFromInterrupt, raiseFault])
    | (simp only [Op.run, jumpAbsIf, jumpRelIf, callAbsIf, returnIf] at h; split at h <;> injection h with h <;> subst h <;>
        simp [State.retire, State.jumpTaken, State.finish])

@[simp] theorem stepHl_platform (s : State) (m : R16mem) : (s.stepHl m).platform = s.platform := by cases m <;> rfl
@[simp] theorem setR16sp_platform (s : State) (p : R16sp) (v : Addr) : (s.setR16sp p v).platform = s.platform := by cases p <;> rfl
@[simp] theorem aluA_platform (s : State) (o : AluOp) (x : Byte) : (s.aluA o x).platform = s.platform := by cases o <;> rfl

@[simp] theorem stepHl_cyc (s : State) (m : R16mem) : (s.stepHl m).cyc = s.cyc := by cases m <;> rfl
@[simp] theorem setR16sp_cyc (s : State) (p : R16sp) (v : Addr) : (s.setR16sp p v).cyc = s.cyc := by cases p <;> rfl
@[simp] theorem aluA_cyc (s : State) (o : AluOp) (x : Byte) : (s.aluA o x).cyc = s.cyc := by cases o <;> rfl

/-- No instruction changes the cycle counter: the driver advances it (`61_scheduler.md` R452). -/
theorem exec_cyc {i : Instr} {s t : State} (h : exec i s = .next t) : t.cyc = s.cyc := by
  rw [exec_eq_run] at h
  generalize i.op = o at h
  cases o <;> first
    | (injection h with h; subst h; simp [State.retire, State.jump, State.finish, returnFromInterrupt, raiseFault])
    | (simp only [Op.run, jumpAbsIf, jumpRelIf, callAbsIf, returnIf] at h; split at h <;> injection h with h <;> subst h <;>
        simp [State.retire, State.jumpTaken, State.finish])

/-- No instruction changes a read-only region (`10_state.md` R40). -/
theorem exec_rom {i : Instr} {s t : State} (h : exec i s = .next t) : t.platform.rom = s.platform.rom := by
  rw [exec_eq_run] at h
  generalize i.op = o at h
  cases o <;> first
    | (injection h with h; subst h; simp [State.retire, State.jump, State.finish, returnFromInterrupt, raiseFault])
    | (simp only [Op.run, jumpAbsIf, jumpRelIf, callAbsIf, returnIf] at h; split at h <;> injection h with h <;> subst h <;>
        simp [State.retire, State.jumpTaken, State.finish])

/-- The cases of a step: the devices and the wake test; then nothing, the service of an interrupt, or an instruction; then the
counter. -/
theorem step_cases {s t w : State} (h : step s = .next t) (hw : w = wake (devicesStep s)) :
    s.fault = none ∧ ∃ u, t = advance u ∧
      ((w.cpu.next ≠ some w.cyc ∧ u = w) ∨
        (w.cpu.next = some w.cyc ∧ w.cpu.ime = true ∧ w.ready ≠ 0#8 ∧ u = serviceInterrupt w) ∨
        (w.cpu.next = some w.cyc ∧ ¬(w.cpu.ime = true ∧ w.ready ≠ 0#8) ∧ exec (fetch w) w = .next u)) := by
  cases hf : s.fault with
  | some k => simp [step, hf] at h
  | none =>
    refine ⟨rfl, ?_⟩
    simp only [step, hf, driverStep, cpuStep, ← hw] at h
    by_cases hn : w.cpu.next = some w.cyc
    · simp only [hn, if_true, cpuAct] at h
      by_cases hr : w.cpu.ime = true ∧ w.ready ≠ 0#8
      · rw [if_pos hr] at h
        injection h with h
        exact ⟨_, h.symm, .inr (.inl ⟨hn, hr.1, hr.2, rfl⟩)⟩
      · rw [if_neg hr] at h
        cases he : exec (fetch w) w with
        | next u => rw [he] at h; injection h with h; exact ⟨u, h.symm, .inr (.inr ⟨hn, hr, rfl⟩)⟩
        | fault k => rw [he] at h; exact absurd h nofun
        | refused k => rw [he] at h; exact absurd h nofun
    · rw [if_neg hn] at h
      injection h with h
      exact ⟨w, h.symm, .inl ⟨hn, rfl⟩⟩

/-- `BeforeCpu` is what the driver's step computes before the Cpu's turn. -/
theorem beforeCpu_iff {s w : State} : BeforeCpu s w ↔ w = wake (devicesStep s) := by
  have e : (dmaStep (lcdNotice (timerStep s))).cyc = s.cyc := by simp
  constructor
  · rintro ⟨_, _, _, _, rfl, rfl, rfl, rfl, rfl⟩
    simp only [devicesStep, lcdStep, e]
    rfl
  · rintro rfl
    refine ⟨_, _, _, _, rfl, rfl, rfl, rfl, ?_⟩
    simp only [devicesStep, lcdStep, e]
    rfl

/-! Safe runs. -/

@[simp] theorem safeFor_zero (s : State) : safeFor 0 s ↔ s.fault = none := Iff.rfl

theorem safeFor_succ (k : Nat) (s : State) : safeFor (k + 1) s ↔ ∃ t, step s = .next t ∧ safeFor k t := Iff.rfl

/-- A safe run begins with no fault latched. -/
theorem safeFor_running {k : Nat} {s : State} (h : safeFor k s) : s.running := by
  cases k with
  | zero => exact h
  | succ k => obtain ⟨t, ht, -⟩ := h; exact (step_cases ht rfl).1

/-- Of a state with a successor, one more step is safe exactly when the successor's run is. -/
theorem safeFor_of_step {s t : State} (h : step s = .next t) (k : Nat) : safeFor (k + 1) s ↔ safeFor k t := by
  simp [safeFor_succ, h]

end Sys2Proof.Machine
end

