-- ==== Sys2Proof/Tests/Slice0.lean ====
section
/-! SUPPORT. The model's own tests: the well-formedness smoke test, the opcode map word by word, one-step tests whose
expected results are those of `95_test_vectors.md` and of the rules named, and for every statement with hypotheses a concrete
state and operands that meet them. -/

namespace Sys2Proof.Tests

set_option Elab.async false

open Sys2Proof Sys2Proof.Machine

/-- The registers A F B C D E H L. -/
def g (a f b c d e h l : Byte) : Regs := { a := a, f := f, b := b, c := c, d := d, e := e, h := h, l := l }

/-- The reset state with registers, `pc`, `sp`, the bytes at `pc` in the cartridge, and bytes stored through the bus. -/
def at0 (r : Regs) (pc sp : Addr) (bytes : List Byte) (stored : List (Addr × Byte)) : State :=
  let rom := (bytes.zipIdx pc.toNat).foldl (fun m bk => Memory.store m bk.2 bk.1) []
  let s := State.resetWith Config.params ResetValues.default (.image rom)
  stored.foldl (fun t ab => busWrite t ab.1 ab.2) { s with cpu := { s.cpu with regs := r, pc := pc, sp := sp } }

/-- The state an answer holds; the reset state for a fault or a refusal. -/
def nextOf : Result → State
  | .next t => t
  | .fault _ => State.reset
  | .refused _ => State.reset

/-- The state after the act of the Cpu. -/
def ran (s : State) : State := nextOf (cpuAct s)

/-- A state with every register different, RAM, IE and F not zero, and the Cpu about to execute. -/
def st : State := at0 (g 0x3A 0x90 0xC0 0x01 0x80 0x02 0xC1 0x23) 0x0150 0xD000 [] [(0xC001, 0x12), (0xC123, 0x77), (0xFFFF, 0x15)]

/-! ## Well-formedness -/

theorem test_wf_refuses_the_prefix_byte : WellFormed (.prefix_CB 0x37) = false := by decide

theorem test_wf_accepts_instructions :
    [Instr.nop, .ld_B_C, .ld_A_N8 0xFF, .jp_N16 0xFFFF, .stop, .unused_D3, .swap_A].all WellFormed = true := by decide

theorem test_prefix_byte_is_never_decoded : decode [0xCB#8] = .error (.truncated 0xCB#8) := rfl

theorem test_unused_bytes_decode_to_themselves :
    [0xD3#8, 0xDB#8, 0xDD#8, 0xE3#8, 0xE4#8, 0xEB#8, 0xEC#8, 0xED#8, 0xF4#8, 0xFC#8, 0xFD#8].all
      (fun b => (decodeBytes b 0x34 0x12).op == .unused b) = true := by decide +kernel


/-! ## Decoding: the words of the opcode map, sixteen rows a theorem (`30_encoding.md` R140 to R143). The bytes after the first
are 0x34, 0x12. Row 0xCB is the prefix byte and stands with the prefixed rows. -/

theorem decode_direct_0 :
    [0x00, 0x01, 0x02, 0x03, 0x04, 0x05, 0x06, 0x07, 0x08, 0x09, 0x0A, 0x0B, 0x0C, 0x0D, 0x0E, 0x0F].map (decodeBytes · 0x34 0x12) =
    [.nop, .ld_BC_N16 0x1234, .ld_AtBC_A, .inc_BC, .inc_B, .dec_B, .ld_B_N8 0x34, .rlca, .ld_AtN16_SP 0x1234, .add_HL_BC,
      .ld_A_AtBC, .dec_BC, .inc_C, .dec_C, .ld_C_N8 0x34, .rrca] := by decide +kernel
theorem decode_direct_1 :
    [0x10, 0x11, 0x12, 0x13, 0x14, 0x15, 0x16, 0x17, 0x18, 0x19, 0x1A, 0x1B, 0x1C, 0x1D, 0x1E, 0x1F].map (decodeBytes · 0x34 0x12) =
    [.stop, .ld_DE_N16 0x1234, .ld_AtDE_A, .inc_DE, .inc_D, .dec_D, .ld_D_N8 0x34, .rla, .jr_E8 0x34, .add_HL_DE, .ld_A_AtDE,
      .dec_DE, .inc_E, .dec_E, .ld_E_N8 0x34, .rra] := by decide +kernel
theorem decode_direct_2 :
    [0x20, 0x21, 0x22, 0x23, 0x24, 0x25, 0x26, 0x27, 0x28, 0x29, 0x2A, 0x2B, 0x2C, 0x2D, 0x2E, 0x2F].map (decodeBytes · 0x34 0x12) =
    [.jr_NZ_E8 0x34, .ld_HL_N16 0x1234, .ld_AtHLInc_A, .inc_HL, .inc_H, .dec_H, .ld_H_N8 0x34, .daa, .jr_Z_E8 0x34,
      .add_HL_HL, .ld_A_AtHLInc, .dec_HL, .inc_L, .dec_L, .ld_L_N8 0x34, .cpl] := by decide +kernel
theorem decode_direct_3 :
    [0x30, 0x31, 0x32, 0x33, 0x34, 0x35, 0x36, 0x37, 0x38, 0x39, 0x3A, 0x3B, 0x3C, 0x3D, 0x3E, 0x3F].map (decodeBytes · 0x34 0x12) =
    [.jr_NC_E8 0x34, .ld_SP_N16 0x1234, .ld_AtHLDec_A, .inc_SP, .inc_AtHL, .dec_AtHL, .ld_AtHL_N8 0x34, .scf, .jr_C_E8 0x34,
      .add_HL_SP, .ld_A_AtHLDec, .dec_SP, .inc_A, .dec_A, .ld_A_N8 0x34, .ccf] := by decide +kernel
theorem decode_direct_4 :
    [0x40, 0x41, 0x42, 0x43, 0x44, 0x45, 0x46, 0x47, 0x48, 0x49, 0x4A, 0x4B, 0x4C, 0x4D, 0x4E, 0x4F].map (decodeBytes · 0x34 0x12) =
    [.ld_B_B, .ld_B_C, .ld_B_D, .ld_B_E, .ld_B_H, .ld_B_L, .ld_B_AtHL, .ld_B_A, .ld_C_B, .ld_C_C, .ld_C_D, .ld_C_E, .ld_C_H,
      .ld_C_L, .ld_C_AtHL, .ld_C_A] := by decide +kernel
theorem decode_direct_5 :
    [0x50, 0x51, 0x52, 0x53, 0x54, 0x55, 0x56, 0x57, 0x58, 0x59, 0x5A, 0x5B, 0x5C, 0x5D, 0x5E, 0x5F].map (decodeBytes · 0x34 0x12) =
    [.ld_D_B, .ld_D_C, .ld_D_D, .ld_D_E, .ld_D_H, .ld_D_L, .ld_D_AtHL, .ld_D_A, .ld_E_B, .ld_E_C, .ld_E_D, .ld_E_E, .ld_E_H,
      .ld_E_L, .ld_E_AtHL, .ld_E_A] := by decide +kernel
theorem decode_direct_6 :
    [0x60, 0x61, 0x62, 0x63, 0x64, 0x65, 0x66, 0x67, 0x68, 0x69, 0x6A, 0x6B, 0x6C, 0x6D, 0x6E, 0x6F].map (decodeBytes · 0x34 0x12) =
    [.ld_H_B, .ld_H_C, .ld_H_D, .ld_H_E, .ld_H_H, .ld_H_L, .ld_H_AtHL, .ld_H_A, .ld_L_B, .ld_L_C, .ld_L_D, .ld_L_E, .ld_L_H,
      .ld_L_L, .ld_L_AtHL, .ld_L_A] := by decide +kernel
theorem decode_direct_7 :
    [0x70, 0x71, 0x72, 0x73, 0x74, 0x75, 0x76, 0x77, 0x78, 0x79, 0x7A, 0x7B, 0x7C, 0x7D, 0x7E, 0x7F].map (decodeBytes · 0x34 0x12) =
    [.ld_AtHL_B, .ld_AtHL_C, .ld_AtHL_D, .ld_AtHL_E, .ld_AtHL_H, .ld_AtHL_L, .halt, .ld_AtHL_A, .ld_A_B, .ld_A_C, .ld_A_D,
      .ld_A_E, .ld_A_H, .ld_A_L, .ld_A_AtHL, .ld_A_A] := by decide +kernel
theorem decode_direct_8 :
    [0x80, 0x81, 0x82, 0x83, 0x84, 0x85, 0x86, 0x87, 0x88, 0x89, 0x8A, 0x8B, 0x8C, 0x8D, 0x8E, 0x8F].map (decodeBytes · 0x34 0x12) =
    [.add_A_B, .add_A_C, .add_A_D, .add_A_E, .add_A_H, .add_A_L, .add_A_AtHL, .add_A_A, .adc_A_B, .adc_A_C, .adc_A_D,
      .adc_A_E, .adc_A_H, .adc_A_L, .adc_A_AtHL, .adc_A_A] := by decide +kernel
theorem decode_direct_9 :
    [0x90, 0x91, 0x92, 0x93, 0x94, 0x95, 0x96, 0x97, 0x98, 0x99, 0x9A, 0x9B, 0x9C, 0x9D, 0x9E, 0x9F].map (decodeBytes · 0x34 0x12) =
    [.sub_A_B, .sub_A_C, .sub_A_D, .sub_A_E, .sub_A_H, .sub_A_L, .sub_A_AtHL, .sub_A_A, .sbc_A_B, .sbc_A_C, .sbc_A_D,
      .sbc_A_E, .sbc_A_H, .sbc_A_L, .sbc_A_AtHL, .sbc_A_A] := by decide +kernel
theorem decode_direct_A :
    [0xA0, 0xA1, 0xA2, 0xA3, 0xA4, 0xA5, 0xA6, 0xA7, 0xA8, 0xA9, 0xAA, 0xAB, 0xAC, 0xAD, 0xAE, 0xAF].map (decodeBytes · 0x34 0x12) =
    [.and_A_B, .and_A_C, .and_A_D, .and_A_E, .and_A_H, .and_A_L, .and_A_AtHL, .and_A_A, .xor_A_B, .xor_A_C, .xor_A_D,
      .xor_A_E, .xor_A_H, .xor_A_L, .xor_A_AtHL, .xor_A_A] := by decide +kernel
theorem decode_direct_B :
    [0xB0, 0xB1, 0xB2, 0xB3, 0xB4, 0xB5, 0xB6, 0xB7, 0xB8, 0xB9, 0xBA, 0xBB, 0xBC, 0xBD, 0xBE, 0xBF].map (decodeBytes · 0x34 0x12) =
    [.or_A_B, .or_A_C, .or_A_D, .or_A_E, .or_A_H, .or_A_L, .or_A_AtHL, .or_A_A, .cp_A_B, .cp_A_C, .cp_A_D, .cp_A_E, .cp_A_H,
      .cp_A_L, .cp_A_AtHL, .cp_A_A] := by decide +kernel
theorem decode_direct_C :
    [0xC0, 0xC1, 0xC2, 0xC3, 0xC4, 0xC5, 0xC6, 0xC7, 0xC8, 0xC9, 0xCA, 0xCC, 0xCD, 0xCE, 0xCF].map (decodeBytes · 0x34 0x12) =
    [.ret_NZ, .pop_BC, .jp_NZ_N16 0x1234, .jp_N16 0x1234, .call_NZ_N16 0x1234, .push_BC, .add_A_N8 0x34, .rst_00, .ret_Z,
      .ret, .jp_Z_N16 0x1234, .call_Z_N16 0x1234, .call_N16 0x1234, .adc_A_N8 0x34, .rst_08] := by decide +kernel
theorem decode_direct_D :
    [0xD0, 0xD1, 0xD2, 0xD3, 0xD4, 0xD5, 0xD6, 0xD7, 0xD8, 0xD9, 0xDA, 0xDB, 0xDC, 0xDD, 0xDE, 0xDF].map (decodeBytes · 0x34 0x12) =
    [.ret_NC, .pop_DE, .jp_NC_N16 0x1234, .unused_D3, .call_NC_N16 0x1234, .push_DE, .sub_A_N8 0x34, .rst_10, .ret_C, .reti,
      .jp_C_N16 0x1234, .unused_DB, .call_C_N16 0x1234, .unused_DD, .sbc_A_N8 0x34, .rst_18] := by decide +kernel
theorem decode_direct_E :
    [0xE0, 0xE1, 0xE2, 0xE3, 0xE4, 0xE5, 0xE6, 0xE7, 0xE8, 0xE9, 0xEA, 0xEB, 0xEC, 0xED, 0xEE, 0xEF].map (decodeBytes · 0x34 0x12) =
    [.ldh_AtN8_A 0x34, .pop_HL, .ldh_AtC_A, .unused_E3, .unused_E4, .push_HL, .and_A_N8 0x34, .rst_20, .add_SP_E8 0x34,
      .jp_HL, .ld_AtN16_A 0x1234, .unused_EB, .unused_EC, .unused_ED, .xor_A_N8 0x34, .rst_28] := by decide +kernel
theorem decode_direct_F :
    [0xF0, 0xF1, 0xF2, 0xF3, 0xF4, 0xF5, 0xF6, 0xF7, 0xF8, 0xF9, 0xFA, 0xFB, 0xFC, 0xFD, 0xFE, 0xFF].map (decodeBytes · 0x34 0x12) =
    [.ldh_A_AtN8 0x34, .pop_AF, .ldh_A_AtC, .di, .unused_F4, .push_AF, .or_A_N8 0x34, .rst_30, .ld_HL_SPE8 0x34, .ld_SP_HL,
      .ld_A_AtN16 0x1234, .ei, .unused_FC, .unused_FD, .cp_A_N8 0x34, .rst_38] := by decide +kernel
theorem decode_prefixed_0 :
    [0x00, 0x01, 0x02, 0x03, 0x04, 0x05, 0x06, 0x07, 0x08, 0x09, 0x0A, 0x0B, 0x0C, 0x0D, 0x0E, 0x0F].map (decodeBytes 0xCB · 0x12) =
    [.rlc_B, .rlc_C, .rlc_D, .rlc_E, .rlc_H, .rlc_L, .rlc_AtHL, .rlc_A, .rrc_B, .rrc_C, .rrc_D, .rrc_E, .rrc_H, .rrc_L,
      .rrc_AtHL, .rrc_A] := by decide +kernel
theorem decode_prefixed_1 :
    [0x10, 0x11, 0x12, 0x13, 0x14, 0x15, 0x16, 0x17, 0x18, 0x19, 0x1A, 0x1B, 0x1C, 0x1D, 0x1E, 0x1F].map (decodeBytes 0xCB · 0x12) =
    [.rl_B, .rl_C, .rl_D, .rl_E, .rl_H, .rl_L, .rl_AtHL, .rl_A, .rr_B, .rr_C, .rr_D, .rr_E, .rr_H, .rr_L, .rr_AtHL,
      .rr_A] := by decide +kernel
theorem decode_prefixed_2 :
    [0x20, 0x21, 0x22, 0x23, 0x24, 0x25, 0x26, 0x27, 0x28, 0x29, 0x2A, 0x2B, 0x2C, 0x2D, 0x2E, 0x2F].map (decodeBytes 0xCB · 0x12) =
    [.sla_B, .sla_C, .sla_D, .sla_E, .sla_H, .sla_L, .sla_AtHL, .sla_A, .sra_B, .sra_C, .sra_D, .sra_E, .sra_H, .sra_L,
      .sra_AtHL, .sra_A] := by decide +kernel
theorem decode_prefixed_3 :
    [0x30, 0x31, 0x32, 0x33, 0x34, 0x35, 0x36, 0x37, 0x38, 0x39, 0x3A, 0x3B, 0x3C, 0x3D, 0x3E, 0x3F].map (decodeBytes 0xCB · 0x12) =
    [.swap_B, .swap_C, .swap_D, .swap_E, .swap_H, .swap_L, .swap_AtHL, .swap_A, .srl_B, .srl_C, .srl_D, .srl_E, .srl_H,
      .srl_L, .srl_AtHL, .srl_A] := by decide +kernel
theorem decode_prefixed_4 :
    [0x40, 0x41, 0x42, 0x43, 0x44, 0x45, 0x46, 0x47, 0x48, 0x49, 0x4A, 0x4B, 0x4C, 0x4D, 0x4E, 0x4F].map (decodeBytes 0xCB · 0x12) =
    [.bit_0_B, .bit_0_C, .bit_0_D, .bit_0_E, .bit_0_H, .bit_0_L, .bit_0_AtHL, .bit_0_A, .bit_1_B, .bit_1_C, .bit_1_D,
      .bit_1_E, .bit_1_H, .bit_1_L, .bit_1_AtHL, .bit_1_A] := by decide +kernel
theorem decode_prefixed_5 :
    [0x50, 0x51, 0x52, 0x53, 0x54, 0x55, 0x56, 0x57, 0x58, 0x59, 0x5A, 0x5B, 0x5C, 0x5D, 0x5E, 0x5F].map (decodeBytes 0xCB · 0x12) =
    [.bit_2_B, .bit_2_C, .bit_2_D, .bit_2_E, .bit_2_H, .bit_2_L, .bit_2_AtHL, .bit_2_A, .bit_3_B, .bit_3_C, .bit_3_D,
      .bit_3_E, .bit_3_H, .bit_3_L, .bit_3_AtHL, .bit_3_A] := by decide +kernel
theorem decode_prefixed_6 :
    [0x60, 0x61, 0x62, 0x63, 0x64, 0x65, 0x66, 0x67, 0x68, 0x69, 0x6A, 0x6B, 0x6C, 0x6D, 0x6E, 0x6F].map (decodeBytes 0xCB · 0x12) =
    [.bit_4_B, .bit_4_C, .bit_4_D, .bit_4_E, .bit_4_H, .bit_4_L, .bit_4_AtHL, .bit_4_A, .bit_5_B, .bit_5_C, .bit_5_D,
      .bit_5_E, .bit_5_H, .bit_5_L, .bit_5_AtHL, .bit_5_A] := by decide +kernel
theorem decode_prefixed_7 :
    [0x70, 0x71, 0x72, 0x73, 0x74, 0x75, 0x76, 0x77, 0x78, 0x79, 0x7A, 0x7B, 0x7C, 0x7D, 0x7E, 0x7F].map (decodeBytes 0xCB · 0x12) =
    [.bit_6_B, .bit_6_C, .bit_6_D, .bit_6_E, .bit_6_H, .bit_6_L, .bit_6_AtHL, .bit_6_A, .bit_7_B, .bit_7_C, .bit_7_D,
      .bit_7_E, .bit_7_H, .bit_7_L, .bit_7_AtHL, .bit_7_A] := by decide +kernel
theorem decode_prefixed_8 :
    [0x80, 0x81, 0x82, 0x83, 0x84, 0x85, 0x86, 0x87, 0x88, 0x89, 0x8A, 0x8B, 0x8C, 0x8D, 0x8E, 0x8F].map (decodeBytes 0xCB · 0x12) =
    [.res_0_B, .res_0_C, .res_0_D, .res_0_E, .res_0_H, .res_0_L, .res_0_AtHL, .res_0_A, .res_1_B, .res_1_C, .res_1_D,
      .res_1_E, .res_1_H, .res_1_L, .res_1_AtHL, .res_1_A] := by decide +kernel
theorem decode_prefixed_9 :
    [0x90, 0x91, 0x92, 0x93, 0x94, 0x95, 0x96, 0x97, 0x98, 0x99, 0x9A, 0x9B, 0x9C, 0x9D, 0x9E, 0x9F].map (decodeBytes 0xCB · 0x12) =
    [.res_2_B, .res_2_C, .res_2_D, .res_2_E, .res_2_H, .res_2_L, .res_2_AtHL, .res_2_A, .res_3_B, .res_3_C, .res_3_D,
      .res_3_E, .res_3_H, .res_3_L, .res_3_AtHL, .res_3_A] := by decide +kernel
theorem decode_prefixed_A :
    [0xA0, 0xA1, 0xA2, 0xA3, 0xA4, 0xA5, 0xA6, 0xA7, 0xA8, 0xA9, 0xAA, 0xAB, 0xAC, 0xAD, 0xAE, 0xAF].map (decodeBytes 0xCB · 0x12) =
    [.res_4_B, .res_4_C, .res_4_D, .res_4_E, .res_4_H, .res_4_L, .res_4_AtHL, .res_4_A, .res_5_B, .res_5_C, .res_5_D,
      .res_5_E, .res_5_H, .res_5_L, .res_5_AtHL, .res_5_A] := by decide +kernel
theorem decode_prefixed_B :
    [0xB0, 0xB1, 0xB2, 0xB3, 0xB4, 0xB5, 0xB6, 0xB7, 0xB8, 0xB9, 0xBA, 0xBB, 0xBC, 0xBD, 0xBE, 0xBF].map (decodeBytes 0xCB · 0x12) =
    [.res_6_B, .res_6_C, .res_6_D, .res_6_E, .res_6_H, .res_6_L, .res_6_AtHL, .res_6_A, .res_7_B, .res_7_C, .res_7_D,
      .res_7_E, .res_7_H, .res_7_L, .res_7_AtHL, .res_7_A] := by decide +kernel
theorem decode_prefixed_C :
    [0xC0, 0xC1, 0xC2, 0xC3, 0xC4, 0xC5, 0xC6, 0xC7, 0xC8, 0xC9, 0xCA, 0xCB, 0xCC, 0xCD, 0xCE, 0xCF].map (decodeBytes 0xCB · 0x12) =
    [.set_0_B, .set_0_C, .set_0_D, .set_0_E, .set_0_H, .set_0_L, .set_0_AtHL, .set_0_A, .set_1_B, .set_1_C, .set_1_D,
      .set_1_E, .set_1_H, .set_1_L, .set_1_AtHL, .set_1_A] := by decide +kernel
theorem decode_prefixed_D :
    [0xD0, 0xD1, 0xD2, 0xD3, 0xD4, 0xD5, 0xD6, 0xD7, 0xD8, 0xD9, 0xDA, 0xDB, 0xDC, 0xDD, 0xDE, 0xDF].map (decodeBytes 0xCB · 0x12) =
    [.set_2_B, .set_2_C, .set_2_D, .set_2_E, .set_2_H, .set_2_L, .set_2_AtHL, .set_2_A, .set_3_B, .set_3_C, .set_3_D,
      .set_3_E, .set_3_H, .set_3_L, .set_3_AtHL, .set_3_A] := by decide +kernel
theorem decode_prefixed_E :
    [0xE0, 0xE1, 0xE2, 0xE3, 0xE4, 0xE5, 0xE6, 0xE7, 0xE8, 0xE9, 0xEA, 0xEB, 0xEC, 0xED, 0xEE, 0xEF].map (decodeBytes 0xCB · 0x12) =
    [.set_4_B, .set_4_C, .set_4_D, .set_4_E, .set_4_H, .set_4_L, .set_4_AtHL, .set_4_A, .set_5_B, .set_5_C, .set_5_D,
      .set_5_E, .set_5_H, .set_5_L, .set_5_AtHL, .set_5_A] := by decide +kernel
theorem decode_prefixed_F :
    [0xF0, 0xF1, 0xF2, 0xF3, 0xF4, 0xF5, 0xF6, 0xF7, 0xF8, 0xF9, 0xFA, 0xFB, 0xFC, 0xFD, 0xFE, 0xFF].map (decodeBytes 0xCB · 0x12) =
    [.set_6_B, .set_6_C, .set_6_D, .set_6_E, .set_6_H, .set_6_L, .set_6_AtHL, .set_6_A, .set_7_B, .set_7_C, .set_7_D,
      .set_7_E, .set_7_H, .set_7_L, .set_7_AtHL, .set_7_A] := by decide +kernel

/-! ## 8-bit loads: one instruction each, from `95_test_vectors.md` part 3 -/

theorem test_V2_ld_h_at_hl : let t := ran (at0 (g 0 0 0 0 0 0 0xC1 0x23) 0 0 [0x66] [(0xC123, 0x77)])
    t.cpu.regs = g 0 0 0 0 0 0 0x77 0x23 ∧ t.cpu.pc = 0x0001 ∧ t.cpu.next = some 2 := by decide +kernel
theorem test_V3_ld_at_hl_l : let t := ran (at0 (g 0 0 0 0 0 0 0xC0 0xAB) 0 0 [0x75] [])
    t.cpu.regs = g 0 0 0 0 0 0 0xC0 0xAB ∧ t.cpu.pc = 0x0001 ∧ busRead t 0xC0AB = 0xAB ∧ t.cpu.next = some 2 := by decide +kernel
theorem test_V4_ld_e_n8 : let t := ran (at0 (g 0 0 0 0 0 0 0 0) 0 0 [0x1E, 0x9C] [])
    t.cpu.regs = g 0 0 0 0 0 0x9C 0 0 ∧ t.cpu.pc = 0x0002 ∧ t.cpu.next = some 2 := by decide +kernel
theorem test_V5_ld_at_hl_n8 : let t := ran (at0 (g 0 0 0 0 0 0 0xC0 0x10) 0 0 [0x36, 0x42] [])
    t.cpu.regs = g 0 0 0 0 0 0 0xC0 0x10 ∧ t.cpu.pc = 0x0002 ∧ busRead t 0xC010 = 0x42 ∧ t.cpu.next = some 3 := by decide +kernel
theorem test_V6_ld_a_at_bc : let t := ran (at0 (g 0 0 0xC0 0x01 0 0 0 0) 0 0 [0x0A] [(0xC001, 0x12)])
    t.cpu.regs = g 0x12 0 0xC0 0x01 0 0 0 0 ∧ t.cpu.pc = 0x0001 ∧ t.cpu.next = some 2 := by decide +kernel
theorem test_V7_ld_a_at_de : let t := ran (at0 (g 0 0 0 0 0xE0 0x02 0 0) 0 0 [0x1A] [(0xC002, 0x34)])
    t.cpu.regs = g 0x34 0 0 0 0xE0 0x02 0 0 ∧ t.cpu.pc = 0x0001 ∧ t.cpu.next = some 2 := by decide +kernel
theorem test_V8_ld_at_bc_a : let t := ran (at0 (g 0x56 0 0xFF 0x80 0 0 0 0) 0 0 [0x02] [])
    t.cpu.regs = g 0x56 0 0xFF 0x80 0 0 0 0 ∧ t.cpu.pc = 0x0001 ∧ busRead t 0xFF80 = 0x56 ∧ t.cpu.next = some 2 := by decide +kernel
theorem test_V9_ld_at_de_a : let t := ran (at0 (g 0x78 0 0 0 0x80 0 0 0) 0 0 [0x12] [])
    t.cpu.regs = g 0x78 0 0 0 0x80 0 0 0 ∧ t.cpu.pc = 0x0001 ∧ busRead t 0x8000 = 0x78 ∧ t.cpu.next = some 2 := by decide +kernel
theorem test_V10_ld_a_hlInc : let t := ran (at0 (g 0 0 0 0 0 0 0xFF 0xFF) 0 0 [0x2A] [(0xFFFF, 0x15)])
    t.cpu.regs = g 0x15 0 0 0 0 0 0 0 ∧ t.cpu.pc = 0x0001 ∧ t.cpu.next = some 2 := by decide +kernel
theorem test_V11_ld_a_hlDec : let t := ran (at0 (g 0 0 0 0 0 0 0xC0 0) 0 0 [0x3A] [(0xC000, 0x9A)])
    t.cpu.regs = g 0x9A 0 0 0 0 0 0xBF 0xFF ∧ t.cpu.pc = 0x0001 ∧ t.cpu.next = some 2 := by decide +kernel
theorem test_V12_ld_hlInc_a : let t := ran (at0 (g 0x01 0 0 0 0 0 0xDF 0xFF) 0 0 [0x22] [])
    t.cpu.regs = g 0x01 0 0 0 0 0 0xE0 0 ∧ t.cpu.pc = 0x0001 ∧ busRead t 0xDFFF = 0x01 ∧ busRead t 0xFDFF = 0 ∧ t.cpu.next = some 2 := by decide +kernel
theorem test_V13_ld_hlDec_a : let t := ran (at0 (g 0x77 0 0 0 0 0 0 0) 0 0 [0x32] [])
    t.cpu.regs = g 0x77 0 0 0 0 0 0xFF 0xFF ∧ t.cpu.pc = 0x0001 ∧ busRead t 0 = 0x32 ∧ t.cpu.next = some 2 := by decide +kernel
theorem test_V14_ldh_at_n8_a : let t := ran (at0 (g 0xAB 0 0 0 0 0 0 0) 0 0 [0xE0, 0x80] [])
    t.cpu.regs = g 0xAB 0 0 0 0 0 0 0 ∧ t.cpu.pc = 0x0002 ∧ busRead t 0xFF80 = 0xAB ∧ t.cpu.next = some 3 := by decide +kernel
theorem test_V15_ldh_a_at_n8 : let t := ran (at0 (g 0 0 0 0 0 0 0 0) 0 0 [0xF0, 0x03] [])
    t.cpu.regs = g 0xFF 0 0 0 0 0 0 0 ∧ t.cpu.pc = 0x0002 ∧ t.cpu.next = some 3 := by decide +kernel
theorem test_V16_ldh_at_c_a : let t := ran (at0 (g 0x1F 0 0 0xFF 0 0 0 0) 0 0 [0xE2] [])
    t.cpu.regs = g 0x1F 0 0 0xFF 0 0 0 0 ∧ t.cpu.pc = 0x0001 ∧ t.cpu.ie = 0x1F ∧ t.cpu.next = some 2 := by decide +kernel
theorem test_V17_ldh_a_at_c : let t := ran (at0 (g 0 0 0 0x0F 0 0 0 0) 0 0 [0xF2] [(0xFF0F, 0x04)])
    t.cpu.regs = g 0x04 0 0 0x0F 0 0 0 0 ∧ t.cpu.pc = 0x0001 ∧ t.cpu.next = some 2 := by decide +kernel
theorem test_V18_ld_at_n16_a : let t := ran (at0 (g 0x5C 0 0 0 0 0 0 0) 0 0 [0xEA, 0x34, 0xC2] [])
    t.cpu.regs = g 0x5C 0 0 0 0 0 0 0 ∧ t.cpu.pc = 0x0003 ∧ busRead t 0xC234 = 0x5C ∧ t.cpu.next = some 4 := by decide +kernel
theorem test_V19_ld_a_at_n16 : let t := ran (at0 (g 0 0 0 0 0 0 0 0) 0 0 [0xFA, 0, 0] [])
    t.cpu.regs = g 0xFA 0 0 0 0 0 0 0 ∧ t.cpu.pc = 0x0003 ∧ t.cpu.next = some 4 := by decide +kernel
theorem test_V20_ld_a_a : let t := ran (at0 (g 0x99 0xF0 0 0 0 0 0 0) 0 0 [0x7F] [])
    t.cpu.regs = g 0x99 0xF0 0 0 0 0 0 0 ∧ t.cpu.pc = 0x0001 ∧ t.cpu.next = some 1 := by decide +kernel

/-! ## 16-bit loads and the stack: one instruction each, from `95_test_vectors.md` part 3 -/

theorem test_V21_ld_bc_n16 : let t := ran (at0 (g 0 0 0 0 0 0 0 0) 0 0 [0x01, 0x34, 0x12] [])
    t.cpu.regs = g 0 0 0x12 0x34 0 0 0 0 ∧ t.cpu.pc = 0x0003 ∧ t.cpu.next = some 3 := by decide +kernel
theorem test_V22_ld_sp_n16 : let t := ran (at0 (g 0 0 0 0 0 0 0 0) 0 0 [0x31, 0xFE, 0xFF] [])
    t.cpu.regs = g 0 0 0 0 0 0 0 0 ∧ t.cpu.pc = 0x0003 ∧ t.cpu.sp = 0xFFFE ∧ t.cpu.next = some 3 := by decide +kernel
theorem test_V23_ld_sp_hl : let t := ran (at0 (g 0 0 0 0 0 0 0xD1 0x23) 0 0 [0xF9] [])
    t.cpu.regs = g 0 0 0 0 0 0 0xD1 0x23 ∧ t.cpu.pc = 0x0001 ∧ t.cpu.sp = 0xD123 ∧ t.cpu.next = some 2 := by decide +kernel
theorem test_V24_ld_at_n16_sp : let t := ran (at0 (g 0 0 0 0 0 0 0 0) 0 0xABCD [0x08, 0, 0xC1] [])
    t.cpu.regs = g 0 0 0 0 0 0 0 0 ∧ t.cpu.pc = 0x0003 ∧ busRead t 0xC100 = 0xCD ∧ busRead t 0xC101 = 0xAB ∧ t.cpu.next = some 5 := by decide +kernel
theorem test_V25_push_de : let t := ran (at0 (g 0 0 0 0 0x12 0x34 0 0) 0 0xD000 [0xD5] [])
    t.cpu.regs = g 0 0 0 0 0x12 0x34 0 0 ∧ t.cpu.pc = 0x0001 ∧ t.cpu.sp = 0xCFFE ∧ busRead t 0xCFFE = 0x34 ∧ busRead t 0xCFFF = 0x12 ∧ t.cpu.next = some 4 := by decide +kernel
theorem test_V26_push_af : let t := ran (at0 (g 0x12 0xB0 0 0 0 0 0 0) 0 0xD000 [0xF5] [])
    t.cpu.regs = g 0x12 0xB0 0 0 0 0 0 0 ∧ t.cpu.pc = 0x0001 ∧ t.cpu.sp = 0xCFFE ∧ busRead t 0xCFFE = 0xB0 ∧ busRead t 0xCFFF = 0x12 ∧ t.cpu.next = some 4 := by decide +kernel
theorem test_V27_pop_af : let t := ran (at0 (g 0 0 0 0 0 0 0 0) 0 0xC000 [0xF1] [(0xC000, 0xFF), (0xC001, 0x12)])
    t.cpu.regs = g 0x12 0xF0 0 0 0 0 0 0 ∧ t.cpu.pc = 0x0001 ∧ t.cpu.sp = 0xC002 ∧ t.cpu.next = some 3 := by decide +kernel
theorem test_V28_pop_bc : let t := ran (at0 (g 0 0 0 0 0 0 0 0) 0 0xFFFE [0xC1] [(0xFFFE, 0x34), (0xFFFF, 0x12)])
    t.cpu.regs = g 0 0 0x12 0x34 0 0 0 0 ∧ t.cpu.pc = 0x0001 ∧ t.cpu.sp = 0 ∧ t.cpu.next = some 3 := by decide +kernel
theorem test_V30_push_bc : let t := ran (at0 (g 0 0 0xBE 0xEF 0 0 0 0) 0 0 [0xC5] [])
    t.cpu.regs = g 0 0 0xBE 0xEF 0 0 0 0 ∧ t.cpu.pc = 0x0001 ∧ t.cpu.sp = 0xFFFE ∧ t.cpu.ie = 0xBE ∧ busRead t 0xFFFE = 0xEF ∧ busRead t 0xFFFF = 0xBE ∧ t.cpu.next = some 4 := by decide +kernel

/-! ## 8-bit arithmetic and logic: one instruction each, from `95_test_vectors.md` part 3 -/

theorem test_V31_add_a_b : let t := ran (at0 (g 0x3A 0 0xC6 0 0 0 0 0) 0 0 [0x80] [])
    t.cpu.regs = g 0 0xB0 0xC6 0 0 0 0 0 ∧ t.cpu.pc = 0x0001 ∧ t.cpu.next = some 1 := by decide +kernel
theorem test_V33_add_a_n8 : let t := ran (at0 (g 0xF0 0 0 0 0 0 0 0) 0 0 [0xC6, 0x10] [])
    t.cpu.regs = g 0 0x90 0 0 0 0 0 0 ∧ t.cpu.pc = 0x0002 ∧ t.cpu.next = some 2 := by decide +kernel
theorem test_V35_add_a_at_hl : let t := ran (at0 (g 0x3C 0 0 0 0 0 0xC0 0) 0 0 [0x86] [(0xC000, 0x12)])
    t.cpu.regs = g 0x4E 0 0 0 0 0 0xC0 0 ∧ t.cpu.pc = 0x0001 ∧ t.cpu.next = some 2 := by decide +kernel
theorem test_V36_adc_a_e : let t := ran (at0 (g 0xE1 0x10 0 0 0 0x0F 0 0) 0 0 [0x8B] [])
    t.cpu.regs = g 0xF1 0x20 0 0 0 0x0F 0 0 ∧ t.cpu.pc = 0x0001 ∧ t.cpu.next = some 1 := by decide +kernel
theorem test_V37_adc_a_n8 : let t := ran (at0 (g 0xFF 0x10 0 0 0 0 0 0) 0 0 [0xCE, 0] [])
    t.cpu.regs = g 0 0xB0 0 0 0 0 0 0 ∧ t.cpu.pc = 0x0002 ∧ t.cpu.next = some 2 := by decide +kernel
theorem test_V38_adc_a_at_hl : let t := ran (at0 (g 0xE1 0x10 0 0 0 0 0xC0 0) 0 0 [0x8E] [(0xC000, 0x1E)])
    t.cpu.regs = g 0 0xB0 0 0 0 0 0xC0 0 ∧ t.cpu.pc = 0x0001 ∧ t.cpu.next = some 2 := by decide +kernel
theorem test_V40_sub_a_a : let t := ran (at0 (g 0x3E 0 0 0 0 0 0 0) 0 0 [0x97] [])
    t.cpu.regs = g 0 0xC0 0 0 0 0 0 0 ∧ t.cpu.pc = 0x0001 ∧ t.cpu.next = some 1 := by decide +kernel
theorem test_V41_sub_a_n8 : let t := ran (at0 (g 0x3E 0 0 0 0 0 0 0) 0 0 [0xD6, 0x0F] [])
    t.cpu.regs = g 0x2F 0x60 0 0 0 0 0 0 ∧ t.cpu.pc = 0x0002 ∧ t.cpu.next = some 2 := by decide +kernel
theorem test_V43_sub_a_at_hl : let t := ran (at0 (g 0 0 0 0 0 0 0xC0 0) 0 0 [0x96] [(0xC000, 0x01)])
    t.cpu.regs = g 0xFF 0x70 0 0 0 0 0xC0 0 ∧ t.cpu.pc = 0x0001 ∧ t.cpu.next = some 2 := by decide +kernel
theorem test_V44_sbc_a_h : let t := ran (at0 (g 0x3B 0x10 0 0 0 0 0x2A 0) 0 0 [0x9C] [])
    t.cpu.regs = g 0x10 0x40 0 0 0 0 0x2A 0 ∧ t.cpu.pc = 0x0001 ∧ t.cpu.next = some 1 := by decide +kernel
theorem test_V45_sbc_a_n8 : let t := ran (at0 (g 0 0x10 0 0 0 0 0 0) 0 0 [0xDE, 0xFF] [])
    t.cpu.regs = g 0 0xF0 0 0 0 0 0 0 ∧ t.cpu.pc = 0x0002 ∧ t.cpu.next = some 2 := by decide +kernel
theorem test_V46_sbc_a_at_hl : let t := ran (at0 (g 0x3B 0x10 0 0 0 0 0xC0 0) 0 0 [0x9E] [(0xC000, 0x4F)])
    t.cpu.regs = g 0xEB 0x70 0 0 0 0 0xC0 0 ∧ t.cpu.pc = 0x0001 ∧ t.cpu.next = some 2 := by decide +kernel
theorem test_V47_cp_a_b : let t := ran (at0 (g 0x3C 0 0x2F 0 0 0 0 0) 0 0 [0xB8] [])
    t.cpu.regs = g 0x3C 0x60 0x2F 0 0 0 0 0 ∧ t.cpu.pc = 0x0001 ∧ t.cpu.next = some 1 := by decide +kernel
theorem test_V48_cp_a_n8 : let t := ran (at0 (g 0x3C 0 0 0 0 0 0 0) 0 0 [0xFE, 0x3C] [])
    t.cpu.regs = g 0x3C 0xC0 0 0 0 0 0 0 ∧ t.cpu.pc = 0x0002 ∧ t.cpu.next = some 2 := by decide +kernel
theorem test_V49_cp_a_at_hl : let t := ran (at0 (g 0x3C 0 0 0 0 0 0xC0 0) 0 0 [0xBE] [(0xC000, 0x40)])
    t.cpu.regs = g 0x3C 0x50 0 0 0 0 0xC0 0 ∧ t.cpu.pc = 0x0001 ∧ t.cpu.next = some 2 := by decide +kernel
theorem test_V50_and_a_l : let t := ran (at0 (g 0x5A 0 0 0 0 0 0 0x3F) 0 0 [0xA5] [])
    t.cpu.regs = g 0x1A 0x20 0 0 0 0 0 0x3F ∧ t.cpu.pc = 0x0001 ∧ t.cpu.next = some 1 := by decide +kernel
theorem test_V51_and_a_n8 : let t := ran (at0 (g 0x5A 0 0 0 0 0 0 0) 0 0 [0xE6, 0x38] [])
    t.cpu.regs = g 0x18 0x20 0 0 0 0 0 0 ∧ t.cpu.pc = 0x0002 ∧ t.cpu.next = some 2 := by decide +kernel
theorem test_V52_and_a_at_hl : let t := ran (at0 (g 0x5A 0x10 0 0 0 0 0xC0 0) 0 0 [0xA6] [(0xC000, 0)])
    t.cpu.regs = g 0 0xA0 0 0 0 0 0xC0 0 ∧ t.cpu.pc = 0x0001 ∧ t.cpu.next = some 2 := by decide +kernel
theorem test_V53_xor_a_a : let t := ran (at0 (g 0xFF 0xF0 0 0 0 0 0 0) 0 0 [0xAF] [])
    t.cpu.regs = g 0 0x80 0 0 0 0 0 0 ∧ t.cpu.pc = 0x0001 ∧ t.cpu.next = some 1 := by decide +kernel
theorem test_V54_xor_a_n8 : let t := ran (at0 (g 0xFF 0 0 0 0 0 0 0) 0 0 [0xEE, 0x0F] [])
    t.cpu.regs = g 0xF0 0 0 0 0 0 0 0 ∧ t.cpu.pc = 0x0002 ∧ t.cpu.next = some 2 := by decide +kernel
theorem test_V55_xor_a_at_hl : let t := ran (at0 (g 0xFF 0 0 0 0 0 0xC0 0) 0 0 [0xAE] [(0xC000, 0x8A)])
    t.cpu.regs = g 0x75 0 0 0 0 0 0xC0 0 ∧ t.cpu.pc = 0x0001 ∧ t.cpu.next = some 2 := by decide +kernel
theorem test_V56_or_a_a : let t := ran (at0 (g 0 0x70 0 0 0 0 0 0) 0 0 [0xB7] [])
    t.cpu.regs = g 0 0x80 0 0 0 0 0 0 ∧ t.cpu.pc = 0x0001 ∧ t.cpu.next = some 1 := by decide +kernel
theorem test_V57_or_a_n8 : let t := ran (at0 (g 0x5A 0 0 0 0 0 0 0) 0 0 [0xF6, 0x03] [])
    t.cpu.regs = g 0x5B 0 0 0 0 0 0 0 ∧ t.cpu.pc = 0x0002 ∧ t.cpu.next = some 2 := by decide +kernel
theorem test_V58_or_a_at_hl : let t := ran (at0 (g 0x5A 0 0 0 0 0 0xC0 0) 0 0 [0xB6] [(0xC000, 0x0F)])
    t.cpu.regs = g 0x5F 0 0 0 0 0 0xC0 0 ∧ t.cpu.pc = 0x0001 ∧ t.cpu.next = some 2 := by decide +kernel
theorem test_V60_inc_b : let t := ran (at0 (g 0 0 0x0F 0 0 0 0 0) 0 0 [0x04] [])
    t.cpu.regs = g 0 0x20 0x10 0 0 0 0 0 ∧ t.cpu.pc = 0x0001 ∧ t.cpu.next = some 1 := by decide +kernel
theorem test_V61_inc_at_hl : let t := ran (at0 (g 0 0 0 0 0 0 0xC0 0) 0 0 [0x34] [(0xC000, 0x50)])
    t.cpu.regs = g 0 0 0 0 0 0 0xC0 0 ∧ t.cpu.pc = 0x0001 ∧ busRead t 0xC000 = 0x51 ∧ t.cpu.next = some 3 := by decide +kernel
theorem test_V63_dec_l : let t := ran (at0 (g 0 0x10 0 0 0 0 0 0) 0 0 [0x2D] [])
    t.cpu.regs = g 0 0x70 0 0 0 0 0 0xFF ∧ t.cpu.pc = 0x0001 ∧ t.cpu.next = some 1 := by decide +kernel
theorem test_V65_dec_at_hl : let t := ran (at0 (g 0 0 0 0 0 0 0xC0 0) 0 0 [0x35] [(0xC000, 0)])
    t.cpu.regs = g 0 0x60 0 0 0 0 0xC0 0 ∧ t.cpu.pc = 0x0001 ∧ busRead t 0xC000 = 0xFF ∧ t.cpu.next = some 3 := by decide +kernel
theorem test_V67_daa : let t := ran (at0 (g 0x2D 0x60 0 0 0 0 0 0) 0 0 [0x27] [])
    t.cpu.regs = g 0x27 0x40 0 0 0 0 0 0 ∧ t.cpu.pc = 0x0001 ∧ t.cpu.next = some 1 := by decide +kernel
theorem test_V71_daa : let t := ran (at0 (g 0 0x70 0 0 0 0 0 0) 0 0 [0x27] [])
    t.cpu.regs = g 0x9A 0x50 0 0 0 0 0 0 ∧ t.cpu.pc = 0x0001 ∧ t.cpu.next = some 1 := by decide +kernel
theorem test_V72_cpl : let t := ran (at0 (g 0x35 0x80 0 0 0 0 0 0) 0 0 [0x2F] [])
    t.cpu.regs = g 0xCA 0xE0 0 0 0 0 0 0 ∧ t.cpu.pc = 0x0001 ∧ t.cpu.next = some 1 := by decide +kernel
theorem test_V73_scf : let t := ran (at0 (g 0 0xE0 0 0 0 0 0 0) 0 0 [0x37] [])
    t.cpu.regs = g 0 0x90 0 0 0 0 0 0 ∧ t.cpu.pc = 0x0001 ∧ t.cpu.next = some 1 := by decide +kernel
theorem test_V74_ccf : let t := ran (at0 (g 0 0xF0 0 0 0 0 0 0) 0 0 [0x3F] [])
    t.cpu.regs = g 0 0x80 0 0 0 0 0 0 ∧ t.cpu.pc = 0x0001 ∧ t.cpu.next = some 1 := by decide +kernel

/-! ## 16-bit arithmetic: one instruction each, from `95_test_vectors.md` part 3 -/

theorem test_V76_add_hl_bc : let t := ran (at0 (g 0 0x80 0x06 0x05 0 0 0x8A 0x23) 0 0 [0x09] [])
    t.cpu.regs = g 0 0xA0 0x06 0x05 0 0 0x90 0x28 ∧ t.cpu.pc = 0x0001 ∧ t.cpu.next = some 2 := by decide +kernel
theorem test_V78_add_hl_sp : let t := ran (at0 (g 0 0 0 0 0 0 0 0x01) 0 0xFFFF [0x39] [])
    t.cpu.regs = g 0 0x30 0 0 0 0 0 0 ∧ t.cpu.pc = 0x0001 ∧ t.cpu.next = some 2 := by decide +kernel
theorem test_V80_inc_bc : let t := ran (at0 (g 0 0 0xFF 0xFF 0 0 0 0) 0 0 [0x03] [])
    t.cpu.regs = g 0 0 0 0 0 0 0 0 ∧ t.cpu.pc = 0x0001 ∧ t.cpu.next = some 2 := by decide +kernel
theorem test_V82_dec_sp : let t := ran (at0 (g 0 0 0 0 0 0 0 0) 0 0 [0x3B] [])
    t.cpu.regs = g 0 0 0 0 0 0 0 0 ∧ t.cpu.pc = 0x0001 ∧ t.cpu.sp = 0xFFFF ∧ t.cpu.next = some 2 := by decide +kernel
theorem test_V85_add_sp_e8 : let t := ran (at0 (g 0 0 0 0 0 0 0 0) 0 0xFFF8 [0xE8, 0xF8] [])
    t.cpu.regs = g 0 0x30 0 0 0 0 0 0 ∧ t.cpu.pc = 0x0002 ∧ t.cpu.sp = 0xFFF0 ∧ t.cpu.next = some 4 := by decide +kernel
theorem test_V88_ld_hl_sp_e8 : let t := ran (at0 (g 0 0x80 0 0 0 0 0x12 0x34) 0 0x0001 [0xF8, 0xFF] [])
    t.cpu.regs = g 0 0x30 0 0 0 0 0 0 ∧ t.cpu.pc = 0x0002 ∧ t.cpu.next = some 3 := by decide +kernel

/-! ## Rotates and shifts: one instruction each, from `95_test_vectors.md` part 3 -/

theorem test_V91_rlca : let t := ran (at0 (g 0x85 0x80 0 0 0 0 0 0) 0 0 [0x07] [])
    t.cpu.regs = g 0x0B 0x10 0 0 0 0 0 0 ∧ t.cpu.pc = 0x0001 ∧ t.cpu.next = some 1 := by decide +kernel
theorem test_V94_rla : let t := ran (at0 (g 0x95 0x10 0 0 0 0 0 0) 0 0 [0x17] [])
    t.cpu.regs = g 0x2B 0x10 0 0 0 0 0 0 ∧ t.cpu.pc = 0x0001 ∧ t.cpu.next = some 1 := by decide +kernel
theorem test_V93_rrca : let t := ran (at0 (g 0x3B 0 0 0 0 0 0 0) 0 0 [0x0F] [])
    t.cpu.regs = g 0x9D 0x10 0 0 0 0 0 0 ∧ t.cpu.pc = 0x0001 ∧ t.cpu.next = some 1 := by decide +kernel
theorem test_V96_rra : let t := ran (at0 (g 0x81 0 0 0 0 0 0 0) 0 0 [0x1F] [])
    t.cpu.regs = g 0x40 0x10 0 0 0 0 0 0 ∧ t.cpu.pc = 0x0001 ∧ t.cpu.next = some 1 := by decide +kernel
theorem test_V98_rlc_b : let t := ran (at0 (g 0 0 0x85 0 0 0 0 0) 0 0 [0xCB, 0] [])
    t.cpu.regs = g 0 0x10 0x0B 0 0 0 0 0 ∧ t.cpu.pc = 0x0002 ∧ t.cpu.next = some 2 := by decide +kernel
theorem test_V100_rlc_at_hl : let t := ran (at0 (g 0 0 0 0 0 0 0xC0 0) 0 0 [0xCB, 0x06] [(0xC000, 0x80)])
    t.cpu.regs = g 0 0x10 0 0 0 0 0xC0 0 ∧ t.cpu.pc = 0x0002 ∧ busRead t 0xC000 = 0x01 ∧ t.cpu.next = some 4 := by decide +kernel
theorem test_V101_rrc_c : let t := ran (at0 (g 0 0 0 0x01 0 0 0 0) 0 0 [0xCB, 0x09] [])
    t.cpu.regs = g 0 0x10 0 0x80 0 0 0 0 ∧ t.cpu.pc = 0x0002 ∧ t.cpu.next = some 2 := by decide +kernel
theorem test_V102_rrc_at_hl : let t := ran (at0 (g 0 0 0 0 0 0 0xC0 0) 0 0 [0xCB, 0x0E] [(0xC000, 0x02)])
    t.cpu.regs = g 0 0 0 0 0 0 0xC0 0 ∧ t.cpu.pc = 0x0002 ∧ busRead t 0xC000 = 0x01 ∧ t.cpu.next = some 4 := by decide +kernel
theorem test_V104_rl_d : let t := ran (at0 (g 0 0x10 0 0 0x01 0 0 0) 0 0 [0xCB, 0x12] [])
    t.cpu.regs = g 0 0 0 0 0x03 0 0 0 ∧ t.cpu.pc = 0x0002 ∧ t.cpu.next = some 2 := by decide +kernel
theorem test_V105_rl_at_hl : let t := ran (at0 (g 0 0x10 0 0 0 0 0xC0 0) 0 0 [0xCB, 0x16] [(0xC000, 0x11)])
    t.cpu.regs = g 0 0 0 0 0 0 0xC0 0 ∧ t.cpu.pc = 0x0002 ∧ busRead t 0xC000 = 0x23 ∧ t.cpu.next = some 4 := by decide +kernel
theorem test_V107_rr_e : let t := ran (at0 (g 0 0x10 0 0 0 0x8A 0 0) 0 0 [0xCB, 0x1B] [])
    t.cpu.regs = g 0 0 0 0 0 0xC5 0 0 ∧ t.cpu.pc = 0x0002 ∧ t.cpu.next = some 2 := by decide +kernel
theorem test_V108_rr_at_hl : let t := ran (at0 (g 0 0x10 0 0 0 0 0xC0 0) 0 0 [0xCB, 0x1E] [(0xC000, 0)])
    t.cpu.regs = g 0 0 0 0 0 0 0xC0 0 ∧ t.cpu.pc = 0x0002 ∧ busRead t 0xC000 = 0x80 ∧ t.cpu.next = some 4 := by decide +kernel
theorem test_V109_sla_d : let t := ran (at0 (g 0 0 0 0 0x80 0 0 0) 0 0 [0xCB, 0x22] [])
    t.cpu.regs = g 0 0x90 0 0 0 0 0 0 ∧ t.cpu.pc = 0x0002 ∧ t.cpu.next = some 2 := by decide +kernel
theorem test_V111_sla_at_hl : let t := ran (at0 (g 0 0x10 0 0 0 0 0xC0 0) 0 0 [0xCB, 0x26] [(0xC000, 0x01)])
    t.cpu.regs = g 0 0 0 0 0 0 0xC0 0 ∧ t.cpu.pc = 0x0002 ∧ busRead t 0xC000 = 0x02 ∧ t.cpu.next = some 4 := by decide +kernel
theorem test_V112_sra_b : let t := ran (at0 (g 0 0 0x8A 0 0 0 0 0) 0 0 [0xCB, 0x28] [])
    t.cpu.regs = g 0 0 0xC5 0 0 0 0 0 ∧ t.cpu.pc = 0x0002 ∧ t.cpu.next = some 2 := by decide +kernel
theorem test_V115_sra_at_hl : let t := ran (at0 (g 0 0 0 0 0 0 0xC0 0) 0 0 [0xCB, 0x2E] [(0xC000, 0x80)])
    t.cpu.regs = g 0 0 0 0 0 0 0xC0 0 ∧ t.cpu.pc = 0x0002 ∧ busRead t 0xC000 = 0xC0 ∧ t.cpu.next = some 4 := by decide +kernel
theorem test_V117_srl_b : let t := ran (at0 (g 0 0 0xFF 0 0 0 0 0) 0 0 [0xCB, 0x38] [])
    t.cpu.regs = g 0 0x10 0x7F 0 0 0 0 0 ∧ t.cpu.pc = 0x0002 ∧ t.cpu.next = some 2 := by decide +kernel
theorem test_V118_srl_at_hl : let t := ran (at0 (g 0 0 0 0 0 0 0xC0 0) 0 0 [0xCB, 0x3E] [(0xC000, 0x80)])
    t.cpu.regs = g 0 0 0 0 0 0 0xC0 0 ∧ t.cpu.pc = 0x0002 ∧ busRead t 0xC000 = 0x40 ∧ t.cpu.next = some 4 := by decide +kernel
theorem test_V120_swap_e : let t := ran (at0 (g 0 0xF0 0 0 0 0xF1 0 0) 0 0 [0xCB, 0x33] [])
    t.cpu.regs = g 0 0 0 0 0 0x1F 0 0 ∧ t.cpu.pc = 0x0002 ∧ t.cpu.next = some 2 := by decide +kernel
theorem test_V121_swap_at_hl : let t := ran (at0 (g 0 0 0 0 0 0 0xC0 0) 0 0 [0xCB, 0x36] [(0xC000, 0x5A)])
    t.cpu.regs = g 0 0 0 0 0 0 0xC0 0 ∧ t.cpu.pc = 0x0002 ∧ busRead t 0xC000 = 0xA5 ∧ t.cpu.next = some 4 := by decide +kernel

/-! ## Bits: one instruction each, from `95_test_vectors.md` part 3 -/

theorem test_V122_bit_7_a : let t := ran (at0 (g 0x80 0x10 0 0 0 0 0 0) 0 0 [0xCB, 0x7F] [])
    t.cpu.regs = g 0x80 0x30 0 0 0 0 0 0 ∧ t.cpu.pc = 0x0002 ∧ t.cpu.next = some 2 := by decide +kernel
theorem test_V125_bit_0_at_hl : let t := ran (at0 (g 0 0 0 0 0 0 0xC0 0) 0 0 [0xCB, 0x46] [(0xC000, 0xFE)])
    t.cpu.regs = g 0 0xA0 0 0 0 0 0xC0 0 ∧ t.cpu.pc = 0x0002 ∧ t.cpu.next = some 3 := by decide +kernel
theorem test_V127_res_7_a : let t := ran (at0 (g 0xFF 0xF0 0 0 0 0 0 0) 0 0 [0xCB, 0xBF] [])
    t.cpu.regs = g 0x7F 0xF0 0 0 0 0 0 0 ∧ t.cpu.pc = 0x0002 ∧ t.cpu.next = some 2 := by decide +kernel
theorem test_V129_res_0_at_hl : let t := ran (at0 (g 0 0 0 0 0 0 0xC0 0) 0 0 [0xCB, 0x86] [(0xC000, 0xFF)])
    t.cpu.regs = g 0 0 0 0 0 0 0xC0 0 ∧ t.cpu.pc = 0x0002 ∧ busRead t 0xC000 = 0xFE ∧ t.cpu.next = some 4 := by decide +kernel
theorem test_V130_set_3_l : let t := ran (at0 (g 0 0 0 0 0 0 0 0) 0 0 [0xCB, 0xDD] [])
    t.cpu.regs = g 0 0 0 0 0 0 0 0x08 ∧ t.cpu.pc = 0x0002 ∧ t.cpu.next = some 2 := by decide +kernel
theorem test_V132_set_3_at_hl : let t := ran (at0 (g 0 0 0 0 0 0 0xC0 0) 0 0 [0xCB, 0xDE] [(0xC000, 0)])
    t.cpu.regs = g 0 0 0 0 0 0 0xC0 0 ∧ t.cpu.pc = 0x0002 ∧ busRead t 0xC000 = 0x08 ∧ t.cpu.next = some 4 := by decide +kernel

/-! ## Control: one instruction each, from `95_test_vectors.md` part 3 -/

theorem test_V134_jp_n16 : let t := ran (at0 (g 0 0 0 0 0 0 0 0) 0 0 [0xC3, 0x50, 0x01] [])
    t.cpu.regs = g 0 0 0 0 0 0 0 0 ∧ t.cpu.pc = 0x0150 ∧ t.cpu.next = some 4 := by decide +kernel
theorem test_V135_jp_nz_n16 : let t := ran (at0 (g 0 0 0 0 0 0 0 0) 0 0 [0xC2, 0, 0x80] [])
    t.cpu.regs = g 0 0 0 0 0 0 0 0 ∧ t.cpu.pc = 0x8000 ∧ t.cpu.next = some 4 := by decide +kernel
theorem test_V136_jp_nz_n16 : let t := ran (at0 (g 0 0x80 0 0 0 0 0 0) 0 0 [0xC2, 0, 0x80] [])
    t.cpu.regs = g 0 0x80 0 0 0 0 0 0 ∧ t.cpu.pc = 0x0003 ∧ t.cpu.next = some 3 := by decide +kernel
theorem test_V140_jp_hl : let t := ran (at0 (g 0 0 0 0 0 0 0xC1 0x23) 0 0 [0xE9] [])
    t.cpu.regs = g 0 0 0 0 0 0 0xC1 0x23 ∧ t.cpu.pc = 0xC123 ∧ t.cpu.next = some 1 := by decide +kernel
theorem test_V143_jr_e8 : let t := ran (at0 (g 0 0 0 0 0 0 0 0) 0x0010 0 [0x18, 0x80] [])
    t.cpu.regs = g 0 0 0 0 0 0 0 0 ∧ t.cpu.pc = 0xFF92 ∧ t.cpu.next = some 3 := by decide +kernel
theorem test_V146_jr_nz_e8 : let t := ran (at0 (g 0 0x80 0 0 0 0 0 0) 0x0100 0 [0x20, 0xFA] [])
    t.cpu.regs = g 0 0x80 0 0 0 0 0 0 ∧ t.cpu.pc = 0x0102 ∧ t.cpu.next = some 2 := by decide +kernel
theorem test_V149_jr_c_e8 : let t := ran (at0 (g 0 0x10 0 0 0 0 0 0) 0x0100 0 [0x38, 0x02] [])
    t.cpu.regs = g 0 0x10 0 0 0 0 0 0 ∧ t.cpu.pc = 0x0104 ∧ t.cpu.next = some 3 := by decide +kernel
theorem test_V150_call_n16 : let t := ran (at0 (g 0 0 0 0 0 0 0 0) 0x0100 0xD000 [0xCD, 0x34, 0x12] [])
    t.cpu.regs = g 0 0 0 0 0 0 0 0 ∧ t.cpu.pc = 0x1234 ∧ t.cpu.sp = 0xCFFE ∧ busRead t 0xCFFE = 0x03 ∧ busRead t 0xCFFF = 0x01 ∧ t.cpu.next = some 6 := by decide +kernel
theorem test_V151_call_nz_n16 : let t := ran (at0 (g 0 0x80 0 0 0 0 0 0) 0x0100 0xD000 [0xC4, 0x34, 0x12] [])
    t.cpu.regs = g 0 0x80 0 0 0 0 0 0 ∧ t.cpu.pc = 0x0103 ∧ busRead t 0xCFFE = 0 ∧ busRead t 0xCFFF = 0 ∧ t.cpu.next = some 3 := by decide +kernel
theorem test_V153_call_nc_n16 : let t := ran (at0 (g 0 0 0 0 0 0 0 0) 0x0100 0xD000 [0xD4, 0x34, 0x12] [])
    t.cpu.regs = g 0 0 0 0 0 0 0 0 ∧ t.cpu.pc = 0x1234 ∧ t.cpu.sp = 0xCFFE ∧ busRead t 0xCFFE = 0x03 ∧ busRead t 0xCFFF = 0x01 ∧ t.cpu.next = some 6 := by decide +kernel
theorem test_V155_ret : let t := ran (at0 (g 0 0 0 0 0 0 0 0) 0 0xCFFE [0xC9] [(0xCFFE, 0x03), (0xCFFF, 0x01)])
    t.cpu.regs = g 0 0 0 0 0 0 0 0 ∧ t.cpu.pc = 0x0103 ∧ t.cpu.sp = 0xD000 ∧ t.cpu.next = some 4 := by decide +kernel
theorem test_V157_ret_nz : let t := ran (at0 (g 0 0x80 0 0 0 0 0 0) 0 0xCFFE [0xC0] [(0xCFFE, 0x03), (0xCFFF, 0x01)])
    t.cpu.regs = g 0 0x80 0 0 0 0 0 0 ∧ t.cpu.pc = 0x0001 ∧ t.cpu.next = some 2 := by decide +kernel
theorem test_V160_ret_c : let t := ran (at0 (g 0 0x10 0 0 0 0 0 0) 0 0xCFFE [0xD8] [(0xCFFE, 0x03), (0xCFFF, 0x01)])
    t.cpu.regs = g 0 0x10 0 0 0 0 0 0 ∧ t.cpu.pc = 0x0103 ∧ t.cpu.sp = 0xD000 ∧ t.cpu.next = some 5 := by decide +kernel
theorem test_V161_reti : let t := ran (at0 (g 0 0 0 0 0 0 0 0) 0 0xCFFE [0xD9] [(0xCFFE, 0x03), (0xCFFF, 0x01)])
    t.cpu.regs = g 0 0 0 0 0 0 0 0 ∧ t.cpu.pc = 0x0103 ∧ t.cpu.sp = 0xD000 ∧ t.cpu.ime = true ∧ t.cpu.next = some 4 := by decide +kernel
theorem test_V162_rst_0x28 : let t := ran (at0 (g 0 0 0 0 0 0 0 0) 0x01FF 0xD000 [0xEF] [])
    t.cpu.regs = g 0 0 0 0 0 0 0 0 ∧ t.cpu.pc = 0x0028 ∧ t.cpu.sp = 0xCFFE ∧ busRead t 0xCFFE = 0 ∧ busRead t 0xCFFF = 0x02 ∧ t.cpu.next = some 4 := by decide +kernel

/-! ## System: one instruction each, from `95_test_vectors.md` part 3 -/

theorem test_V165_nop : let t := ran (at0 (g 0 0xF0 0 0 0 0 0 0) 0 0 [0] [])
    t.cpu.regs = g 0 0xF0 0 0 0 0 0 0 ∧ t.cpu.pc = 0x0001 ∧ t.cpu.next = some 1 := by decide +kernel
theorem test_V166_halt : let t := ran (at0 (g 0 0 0 0 0 0 0 0) 0 0 [0x76] [])
    t.cpu.regs = g 0 0 0 0 0 0 0 0 ∧ t.cpu.pc = 0x0001 ∧ t.cpu.next = none := by decide +kernel
theorem test_V167_di : let t := ran ((at0 (g 0 0 0 0 0 0 0 0) 0 0 [0xF3] []).setIme true)
    t.cpu.regs = g 0 0 0 0 0 0 0 0 ∧ t.cpu.pc = 0x0001 ∧ t.cpu.ime = false ∧ t.cpu.next = some 1 := by decide +kernel
theorem test_V168_ei : let t := ran (at0 (g 0 0 0 0 0 0 0 0) 0 0 [0xFB] [])
    t.cpu.regs = g 0 0 0 0 0 0 0 0 ∧ t.cpu.pc = 0x0001 ∧ t.cpu.ime = true ∧ t.cpu.next = some 1 := by decide +kernel
theorem test_V170_stop : let t := ran (at0 (g 0 0 0 0 0 0 0 0) 0 0 [0x10, 0] [])
    t.cpu.regs = g 0 0 0 0 0 0 0 0 ∧ t.cpu.pc = 0 ∧ t.fault = some .stop := by decide +kernel
theorem test_V171_unused : let t := ran (at0 (g 0 0 0 0 0 0 0 0) 0 0 [0xD3] [])
    t.cpu.regs = g 0 0 0 0 0 0 0 0 ∧ t.cpu.pc = 0 ∧ t.fault = some (.illegal 0xD3) := by decide +kernel

/-! ## The step and the exceptions -/

/-- V173: the prefixed instruction is one act; the Timer acts first. -/
theorem test_step_runs_one_instruction_and_counts_one_cycle :
    let t := nextOf (step (at0 (g 0 0 0x80 0 0 0 0 0) 0 0 [0xCB, 0x00] []))
    t.cpu.regs.b = 0x01 ∧ t.cpu.pc = 2 ∧ t.cpu.next = some 2 ∧ t.cyc = 1 ∧ t.timer.counter = 4 := by decide +kernel

/-- LD SP,0xFFFE placed at the reset address. -/
theorem test_withFetchWord_places_the_next_instruction :
    (nextOf (step (State.reset.withFetchWord 24 0xFFFE31))).cpu.sp = 0xFFFE := by decide +kernel

theorem test_withFetchWord_places_a_prefixed_instruction :
    (nextOf (step (State.reset.withFetchWord 16 0x37CB))).cpu.regs.f = 0x80 := by decide +kernel

/-- V170 and `61_scheduler.md` R462: the fault is latched, the counter stays, the next step reports it. -/
theorem test_step_after_stop_reports_the_fault :
    let t := nextOf (step (at0 (g 0 0 0 0 0 0 0 0) 0 0 [0x10, 0x00] []))
    t.cyc = 0 ∧ (match step t with | .fault k => k == .stop | _ => false) = true := by decide +kernel

/-- A ready machine with IE = 0x1F, `pc` 0x1234, `sp` 0xD000 and IF as given. -/
def ready (iflag : Byte) : State := (at0 (g 0 0 0 0 0 0 0 0) 0x1234 0xD000 [] [(0xFFFF, 0x1F), (0xFF0F, iflag)]).setIme true

/-- IV1: ten of its cases, each by the vector taken and the pending bits that stay. -/
theorem test_interrupt_priority :
    [0x01#8, 0x02, 0x03, 0x04, 0x06, 0x08, 0x0C, 0x10, 0x18, 0x1F].map
      (fun f => ((ran (ready f)).cpu.pc, (ran (ready f)).cpu.iflag)) =
    [(0x40#16, 0x00#8), (0x48, 0), (0x40, 0x02), (0x50, 0), (0x48, 0x04), (0x58, 0), (0x50, 0x08), (0x60, 0), (0x58, 0x10),
      (0x40, 0x1E)] := by decide +kernel

theorem test_interrupt_entry : let t := ran (ready 0x04)
    t.cpu.ime = false ∧ t.cpu.sp = 0xCFFE ∧ busRead t 0xCFFE = 0x34 ∧ busRead t 0xCFFF = 0x12 ∧ t.cpu.next = some 5 := by
  decide +kernel

/-- IV2: bits 7:5 are storage only. -/
theorem test_interrupt_ignores_high_bits :
    (ran ((at0 (g 0 0 0 0 0 0 0 0) 0x0100 0xD000 [] [(0xFFFF, 0xE0), (0xFF0F, 0xE0)]).setIme true)).cpu.pc = 0x0101 := by
  decide +kernel

/-! ## Parameters -/

/-- `00_scope.md` R7: a COST table whose NOP takes 3 bytes and 9 cycles, and INT_COST 7. -/
theorem test_cost_and_int_cost_are_parameters :
    let p := { Config.params with cost := [(Op.nop.row, ⟨3, 9, 0⟩)], intCost := 7 }
    let s := { at0 (g 0 0 0 0 0 0 0 0) 0x0100 0xD000 [] [] with params := p }
    (ran s).cpu.next = some 9 ∧ (ran s).cpu.pc = 0x0103 ∧ (ran { ready 0x01 with params := p }).cpu.next = some 7 := by
  decide +kernel

/-- `20_memory.md` R82, R83, R93: of two participants that claim an address the first answers a read, and both take a write. -/
theorem test_overlay :
    let s := { State.reset with params := { Config.params with platform := [.ram 1 0x0000 0x00FF, .ram 2 0x0080 0x017F] } }
    let t := busWrite s 0x0090 0x55
    busRead t 0x0090 = 0x55 ∧ t.platform.ram = [(65536 + 0x90, 0x55), (131072 + 0x10, 0x55)] ∧ busRead t 0x0180 = 0xFF := by
  decide +kernel

/-- A read-only region answers its fixed bytes, a byte of the range that is not listed as 0x00, and ignores writes (`10_state.md` R40). -/
theorem test_read_only_region :
    let s := State.resetWith { Config.params with platform := [.rom 1 0x4000 0x40FF] }
      { ResetValues.default with rom := [(65536 + 0x10, 0xA5#8)] } (.image [])
    busRead s 0x4010 = 0xA5 ∧ busRead s 0x4011 = 0x00 ∧ busRead s 0x4100 = 0xFF ∧ busWrite s 0x4010 0x55 = s := by decide +kernel

/-! ## Devices -/

/-- A state with the Timer's registers as given. -/
def tm (counter : BitVec 16) (tima tma tac : Byte) : State :=
  { State.reset with timer := { counter := counter, tima := tima, tma := tma, tac := tac } }

/-- TV1. -/
theorem test_timer_steps :
    let u := fun s => let t := timerStep s; (t.timer.counter, t.timer.tima, t.cpu.iflag)
    u (tm 0x000C 0 0 5) = (0x0010, 1, 0) ∧ u (tm 0x0008 0 0 5) = (0x000C, 0, 0) ∧ u (tm 0x000C 0xFF 0xAB 5) = (0x0010, 0xAB, 4) ∧
      u (tm 0x003C 7 0 6) = (0x0040, 8, 0) ∧ u (tm 0x00FC 7 0 7) = (0x0100, 8, 0) ∧ u (tm 0x03FC 7 0 0) = (0x0400, 7, 0) ∧
      u (tm 0xFFFC 7 0 4) = (0x0000, 8, 0) := by decide +kernel

/-- TV1. -/
theorem test_timer_writes :
    let u := fun a v s => let t := busWrite s a v; (t.timer.counter, t.timer.tima, t.timer.tac, t.cpu.iflag)
    u 0xFF04 0xFF (tm 0x1238 9 0 5) = (0, 0x0A, 5, 0) ∧ u 0xFF04 0 (tm 0x1238 0xFF 0x80 5) = (0, 0x80, 5, 4) ∧
      u 0xFF07 1 (tm 8 9 0 5) = (8, 0x0A, 1, 0) ∧ u 0xFF07 4 (tm 0x0208 9 0 5) = (0x0208, 9, 4, 0) ∧
      u 0xFF07 0xFD (tm 8 9 0 5) = (8, 9, 0xFD, 0) := by decide +kernel

/-- A state with the LCD controller given. -/
def lc (f : Lcd → Lcd) : State := { State.reset with lcd := f State.reset.lcd }

/-- LV4. -/
theorem test_lcd_register_writes :
    (busWrite (lc fun l => { l with stat := 0x05 }) 0xFF41 0xFA).lcd.stat = 0xFD ∧
    (busWrite (lc fun l => { l with ly := 0x55 }) 0xFF44 0x11).lcd.ly = 0x55 ∧
    (let t := busWrite (lc fun l => { l with ly := 5, stat := 0x40 }) 0xFF45 5
     t.lcd.stat = 0x44 ∧ t.cpu.iflag = 2 ∧ (busWrite t 0xFF45 6).lcd.stat = 0x40) := by decide +kernel

/-- GV1's set-up: tile 1, tile 2 and one map entry. -/
def gv (lcdc bgp : Byte) (entries : List Byte) (f : Lcd → Lcd) : Lcd :=
  let vram := [(0x10, 0x3C#8), (0x11, 0x7E), (0x12, 0xFF), (0x20, 0xF0), (0x21, 0xCC), (0x1800, 0x01)].foldl
    (fun m kv => Memory.store m kv.1 kv.2) []
  let oam := entries.zipIdx.foldl (fun m bk => Memory.store m bk.2 bk.1) []
  f { State.reset.lcd with lcdc := lcdc, bgp := bgp, obp0 := 0xE4, obp1 := 0x1B, vram := vram, oam := oam }

/-- The first ten columns of line 0. -/
def cols (l : Lcd) : List Nat := (List.range 10).map (fun x => (l.computeLine 0).1.colour x)

theorem test_line_background : cols (gv 0x91 0xE4 [] id) = [0, 2, 3, 3, 3, 3, 2, 0, 0, 0] ∧
    cols (gv 0x91 0xE4 [] fun l => { l with scx := 3 }) = [3, 3, 3, 2, 0, 0, 0, 0, 0, 0] ∧
    cols (gv 0x91 0x1B [] id) = [3, 1, 0, 0, 0, 0, 1, 3, 3, 3] := by decide +kernel

theorem test_line_sprites : cols (gv 0x93 0xE4 [0x10, 0x0A, 0x02, 0x00] id) = [0, 2, 3, 3, 1, 1, 2, 2, 0, 0] ∧
    cols (gv 0x93 0xE4 [0x10, 0x0A, 0x02, 0x80] id) = [0, 2, 3, 3, 3, 3, 2, 2, 0, 0] ∧
    cols (gv 0x93 0xE4 [0x10, 0x0A, 0x02, 0x20] id) = [0, 2, 3, 3, 2, 2, 1, 1, 3, 3] ∧
    cols (gv 0x93 0xE4 [0x10, 0x0C, 0x02, 0x00, 0x10, 0x0A, 0x02, 0x10] id) = [0, 2, 0, 0, 2, 2, 1, 1, 2, 2] ∧
    cols (gv 0x93 0xE4 [0x10, 0x0C, 0x02, 0x00, 0x10, 0x0C, 0x02, 0x10] id) = [0, 2, 3, 3, 3, 3, 1, 1, 2, 2] := by decide +kernel

/-- `63_lcd_controller.md` R527: no flip, each flip, the other palette, and the second tile of a sprite of height 16. -/
theorem test_sprite_line :
    let line (lcdc : Byte) (entry : List Byte) (y : Nat) :=
      let k := (gv lcdc 0xE4 entry id).spriteLine 0 y
      (List.range 9).map (fun x => (k.colour x, k.opaqueAt x))
    line 0x93 [0x10, 0x08, 0x02, 0x0F] 0 =
      [(3, true), (3, true), (1, true), (1, true), (2, true), (2, true), (0, false), (0, false), (0, false)] ∧
    line 0x93 [0x10, 0x08, 0x02, 0x20] 0 =
      [(0, false), (0, false), (2, true), (2, true), (1, true), (1, true), (3, true), (3, true), (0, false)] ∧
    line 0x93 [0x10, 0x08, 0x02, 0x40] 7 = line 0x93 [0x10, 0x08, 0x02, 0x00] 0 ∧
    line 0x93 [0x10, 0x05, 0x02, 0x10] 0 =
      [(2, true), (1, true), (1, true), (3, false), (3, false), (3, false), (3, false), (3, false), (3, false)] ∧
    line 0x97 [0x10, 0x08, 0x01, 0x00] 8 =
      [(0, false), (2, true), (3, true), (3, true), (3, true), (3, true), (2, true), (0, false), (0, false)] ∧
    line 0x97 [0x10, 0x08, 0x01, 0x40] 7 = line 0x97 [0x10, 0x08, 0x00, 0x00] 8 := by decide +kernel

theorem test_line_window :
    cols (gv 0xF1 0xE4 [] fun l => { l with wx := 0x0B, vram := l.vram.store 0x1C00 2 }) = [0, 2, 3, 3, 3, 3, 1, 1, 2, 2] ∧
    cols (gv 0xF1 0xE4 [] fun l => { l with wx := 0x06, vram := l.vram.store 0x1C00 2 }) = [0, 2, 3, 3, 3, 3, 2, 0, 0, 0] := by
  decide +kernel

/-- JV1, rows 2 to 8. -/
theorem test_joypad :
    let s2 := keyPressed .right State.reset
    let s3 := busWrite s2 0xFF00 0x20
    let s4 := keyPressed .up s3
    let s6 := keyPressed .a s4
    s2.cpu.iflag = 0 ∧ busRead s3 0xFF00 = 0xEE ∧ s3.cpu.iflag = 0 ∧ busRead s4 0xFF00 = 0xEA ∧ s4.cpu.iflag = 0x10 ∧
      busRead (busWrite s6 0xFF00 0x10) 0xFF00 = 0xDE ∧ busRead (busWrite s6 0xFF00 0) 0xFF00 = 0xCA := by decide +kernel

/-! ## For every statement with hypotheses, a state and operands that meet them -/

theorem witness_DecodeOfEncode : WellFormed (.ld_A_N8 0xFF) = true ∧ WellFormed .set_7_A = true := by decide

theorem witness_EncodeOfDecode : decode [0x3E#8, 0x0B#8, 0x55#8] = .ok (.ld_A_N8 0x0B#8, [0x55#8]) ∧
    decode [0x10#8, 0x55#8] = .ok (.stop, []) := ⟨rfl, rfl⟩

theorem witness_LoadRegister :
    (Instr.ld_B_C.op = .ldRR .b .c ∧ 0x01 = st.r8 .c) ∧ Instr.op (.ld_A_N8 0xFF) = .ldRN .a 0xFF ∧
    (Instr.ld_A_AtHL.op = .ldRHl .a ∧ 0x77 = busRead st (st.pair .hl)) := by decide +kernel

theorem witness_LoadAccumulator :
    (Instr.ld_A_AtBC.op = .ldAMem .bc ∧ 0xC001 = st.pair .bc) ∧ (Instr.ld_A_AtDE.op = .ldAMem .de ∧ 0x8002 = st.pair .de) ∧
    (Instr.op (.ldh_A_AtN8 0xFF) = .ldhAN 0xFF ∧ (0xFFFF : Addr) = 0xFF00#16 + (0xFF#8).setWidth 16) ∧
    (Instr.ldh_A_AtC.op = .ldhAC ∧ 0xFF01 = 0xFF00#16 + (st.r8 .c).setWidth 16) ∧
    Instr.op (.ld_A_AtN16 0xFFFF) = .ldANn 0xFFFF := by decide +kernel

theorem witness_StoreByte :
    (Instr.ld_AtHL_L.op = .ldHlR .l ∧ 0xC123 = st.pair .hl ∧ 0x23 = st.r8 .l) ∧
    Instr.op (.ld_AtHL_N8 0xFF) = .ldHlN 0xFF ∧ Instr.ld_AtBC_A.op = .ldMemA .bc ∧ Instr.ld_AtDE_A.op = .ldMemA .de ∧
    Instr.op (.ldh_AtN8_A 0x80) = .ldhNA 0x80 ∧ Instr.ldh_AtC_A.op = .ldhCA ∧ Instr.op (.ld_AtN16_A 0) = .ldNnA 0 ∧
    DefaultPlatform st ∧ st.memoryWf = true ∧ plainStorage (st.pair .hl) = true ∧ writeReaches st (st.pair .hl) 0xC124 = false := by decide +kernel

theorem witness_LoadStoreStepHl : st.pair .hl = 0xC123 ∧ Instr.ld_A_AtHLInc.op = .ldAMem .hlInc ∧
    Instr.ld_A_AtHLDec.op = .ldAMem .hlDec ∧ Instr.ld_AtHLInc_A.op = .ldMemA .hlInc ∧ Instr.ld_AtHLDec_A.op = .ldMemA .hlDec := by
  decide +kernel

theorem witness_LoadPair : Instr.op (.ld_BC_N16 0xFFFF) = .ldPairN .bc 0xFFFF ∧ pairOf .bc = some .bc ∧
    Instr.op (.ld_SP_N16 0xFFFF) = .ldPairN .sp 0xFFFF ∧ Instr.ld_SP_HL.op = .ldSpHl := by decide

theorem witness_StoreSpAndPush : Instr.op (.ld_AtN16_SP 0xFFFF) = .ldNnSp 0xFFFF ∧ Instr.push_AF.op = .push .af := by decide

theorem witness_PopPair : Instr.pop_AF.op = .pop .af ∧ Instr.pop_BC.op = .pop .bc := by decide

theorem st_b : st.r8 .b = 0xC0 := by decide +kernel

theorem st_at_hl : busRead st (st.pair .hl) = 0x77 := by decide +kernel

theorem witness_AddAndAdc : AluForm .add_A_B st .add 0xC0 1 1 [0x80] ∧ AluForm (.adc_A_N8 0xFF) st .adc 0xFF 2 2 [0xCE, 0xFF] ∧
    AluForm .adc_A_AtHL st .adc 0x77 1 2 [0x8E] ∧ 1 = st.flags.c.toNat :=
  ⟨st_b ▸ .reg .b rfl, .imm 0xFF rfl, st_at_hl ▸ .hl rfl, by decide +kernel⟩

theorem witness_SubSbcAndCp : AluForm .sub_A_B st .sub 0xC0 1 1 [0x90] ∧ AluForm (.cp_A_N8 0xFF) st .cp 0xFF 2 2 [0xFE, 0xFF] ∧
    AluForm .sbc_A_AtHL st .sbc 0x77 1 2 [0x9E] ∧ (0x7A : Byte) = BitVec.ofInt 8 ((st.reg .a).toNat - (0xC0#8).toNat - (0 : Nat)) :=
  ⟨st_b ▸ .reg .b rfl, .imm 0xFF rfl, st_at_hl ▸ .hl rfl, by decide +kernel⟩

theorem witness_AndXorAndOr : AluForm .and_A_B st .and 0xC0 1 1 [0xA0] ∧ AluForm (.xor_A_N8 0xFF) st .xor 0xFF 2 2 [0xEE, 0xFF] ∧
    AluForm .or_A_AtHL st .or 0x77 1 2 [0xB6] ∧ (0x00 : Byte) = st.reg .a &&& 0xC0 :=
  ⟨st_b ▸ .reg .b rfl, .imm 0xFF rfl, st_at_hl ▸ .hl rfl, by decide +kernel⟩

theorem witness_IncDecByte : st.pair .hl = 0xC123 ∧ (Instr.inc_A.op = .incR .a ∧ 0x3A = st.r8 .a) ∧
    (Instr.dec_L.op = .decR .l ∧ 0x23 = st.r8 .l) ∧ (Instr.inc_AtHL.op = .incHl ∧ Instr.dec_AtHL.op = .decHl ∧ 0x77 = busRead st 0xC123) := by
  decide +kernel

theorem witness_ComplementAndCarry : Instr.cpl.op = .cpl ∧ Instr.scf.op = .scf ∧ Instr.ccf.op = .ccf := by decide

theorem witness_DecimalAdjust : Instr.daa.op = .daa ∧
    true = (st.flags.h || (!st.flags.n && decide ((st.reg .a).toNat % 16 > 9))) ∧
    true = (st.flags.c || (!st.flags.n && decide ((st.reg .a).toNat > 0x99))) ∧
    0x66 = (if true then 0x60 else 0) + (if true then 0x06 else 0) := by decide +kernel

/-- 99 and 99, the largest decimal bytes. -/
def bcd : State := at0 (g 0x99 0 0x99 0 0 0 0 0) 0 0xD000 [] []

theorem witness_DecimalAddition : bcd.reg .a = byteOf (16 * 9 + 9) ∧ bcd.r8 .b = byteOf (16 * 9 + 9) ∧
    Instr.add_A_B.op = .aluR .add .b ∧ Instr.daa.op = .daa ∧ exec .add_A_B bcd = .next (nextOf (exec .add_A_B bcd)) ∧
    exec .daa (nextOf (exec .add_A_B bcd)) = .next (nextOf (exec .daa (nextOf (exec .add_A_B bcd)))) :=
  ⟨by decide +kernel, by decide +kernel, rfl, rfl, rfl, rfl⟩

theorem witness_AddToHl : (Instr.add_HL_BC.op = .addHl .bc ∧ 0xC001 = (match pairOf .bc with | some q => st.pair q | none => st.cpu.sp)) ∧
    (Instr.add_HL_SP.op = .addHl .sp ∧ 0xD000 = (match pairOf .sp with | some q => st.pair q | none => st.cpu.sp)) := by decide +kernel

theorem witness_IncDecPair : Instr.inc_BC.op = .incPair .bc ∧ Instr.dec_HL.op = .decPair .hl ∧ pairOf .bc = some .bc ∧
    pairOf .hl = some .hl ∧ Instr.inc_SP.op = .incPair .sp ∧ Instr.dec_SP.op = .decPair .sp := by decide

theorem witness_AddSignedToSp : Instr.op (.add_SP_E8 0x80) = .addSp 0x80 ∧ Instr.op (.ld_HL_SPE8 0x7F) = .ldHlSp 0x7F ∧
    (⟨false, false, false, false⟩ : Flags) =
      ⟨false, false, decide (st.cpu.sp.toNat % 16 + (0x80#8).toNat % 16 > 0xF),
        decide (st.cpu.sp.toNat % 256 + (0x80#8).toNat > 0xFF)⟩ := by decide +kernel

theorem witness_RotateAccumulator : Instr.rlca.op = .rlca ∧ Instr.rrca.op = .rrca ∧ Instr.rla.op = .rla ∧ Instr.rra.op = .rra := by
  decide

theorem witness_ShiftRegister : Instr.swap_A.op = .shiftR .swap .a ∧ 0xA3 = shiftValue .swap (st.r8 .a) st.flags.c ∧
    Instr.rlc_B.op = .shiftR .rlc .b ∧ 0x81 = shiftValue .rlc (st.r8 .b) st.flags.c := by decide +kernel

theorem witness_prefix_byte : Instr.op (.prefix_CB 0x37) = .shiftR .swap .a ∧ Instr.op (.prefix_CB 0x06) = .shiftHl .rlc ∧
    Instr.op (.prefix_CB 0x46) = .bitHl 0 ∧ Instr.op (.prefix_CB 0xFF) = .setR 7 .a := by decide

theorem witness_ShiftAtHl : Instr.rl_AtHL.op = .shiftHl .rl ∧ st.pair .hl = 0xC123 ∧
    0xEF = shiftValue .rl (busRead st 0xC123) st.flags.c := by decide +kernel

theorem witness_TestBit : (Instr.bit_0_B.op = .bitR 0 .b ∧ 0xC0 = st.r8 .b) ∧
    (Instr.bit_7_AtHL.op = .bitHl 7 ∧ 0x77 = busRead st (st.pair .hl)) := by decide +kernel

theorem witness_ResetSetBit : st.pair .hl = 0xC123 ∧ Instr.res_0_B.op = .resR 0 .b ∧ Instr.set_7_A.op = .setR 7 .a ∧
    Instr.res_7_AtHL.op = .resHl 7 ∧ Instr.set_0_AtHL.op = .setHl 0 := by decide +kernel

theorem witness_Jumps :
    [Cond.nz, .z, .nc, .c].map (fun cc => match cc with
      | .nz => !st.flags.z | .z => st.flags.z | .nc => !st.flags.c | .c => st.flags.c) = [false, true, false, true] ∧
    (0x00D2 : Addr) = BitVec.ofInt 16 (st.cpu.pc.toNat + (st.descriptor (Instr.op (.jr_E8 0x80))).length + (0x80#8).toInt) ∧
    Instr.op (.jp_N16 0xFFFF) = .jp 0xFFFF ∧ Instr.jp_HL.op = .jpHl ∧ Instr.op (.jr_E8 0x80) = .jr 0x80 ∧
    Instr.op (.jp_NZ_N16 0) = .jpCc .nz 0 ∧ Instr.op (.jp_C_N16 0) = .jpCc .c 0 ∧
    Instr.op (.jr_NZ_E8 0x80) = .jrCc .nz 0x80 ∧ Instr.op (.jr_C_E8 0x80) = .jrCc .c 0x80 := by decide +kernel

theorem witness_CallsAndRestarts : Instr.op (.call_N16 0xFFFF) = .call 0xFFFF ∧
    (Instr.op (.call_Z_N16 0) = .callCc .z 0 ∧ st.cond .z = true) ∧ (Instr.op (.call_NC_N16 0) = .callCc .nc 0 ∧ st.cond .nc = false) ∧
    Instr.rst_00.op = .rst 0 ∧ Instr.rst_38.op = .rst 7 := by decide +kernel

theorem witness_Returns : 0x0000#16 = busRead st (st.cpu.sp + 1#16) ++ busRead st st.cpu.sp ∧ Instr.ret.op = .ret ∧
    (Instr.ret_Z.op = .retCc .z ∧ st.cond .z = true) ∧ (Instr.ret_NC.op = .retCc .nc ∧ st.cond .nc = false) ∧ Instr.reti.op = .reti := by
  decide +kernel

theorem witness_Returns_ready : let t := nextOf (exec .reti (ready 0x01))
    exec .reti (ready 0x01) = .next t ∧ t.cpu.ie &&& t.cpu.iflag &&& 0x1F#8 ≠ 0#8 := ⟨rfl, by decide +kernel⟩

theorem witness_NopHaltDiEi : Instr.nop.op = .nop ∧ Instr.di.op = .di ∧ Instr.ei.op = .ei ∧ Instr.halt.op = .halt := by decide

theorem witness_NopHaltDiEi_ready : let t := nextOf (exec .ei (ready 0x01))
    exec .ei (ready 0x01) = .next t ∧ t.cpu.ie &&& t.cpu.iflag &&& 0x1F#8 ≠ 0#8 := ⟨rfl, by decide +kernel⟩

theorem witness_NopHaltDiEi_halted : let t := nextOf (exec .halt (ready 0x01))
    exec .halt (ready 0x01) = .next t ∧ t.cpu.next = none ∧ t.cpu.ie &&& t.cpu.iflag &&& 0x1F#8 ≠ 0#8 :=
  ⟨rfl, by decide +kernel, by decide +kernel⟩

theorem witness_StopAndUnused : Instr.stop.op = .stop ∧ Instr.unused_D3.op = .unused 0xD3 ∧ Instr.unused_FD.op = .unused 0xFD := by
  decide

/-- A machine about to execute LD A,0x0B. -/
def ld0B : State := State.reset.withFetchWord 16 0x0B3E

theorem witness_StepRunsDecoded : let w := wake (devicesStep ld0B)
    ld0B.fault = none ∧ BeforeCpu ld0B w ∧ w.cpu.next = some ld0B.cyc ∧ w.cpu.ime = false ∧
    decode [busRead w w.cpu.pc, busRead w (w.cpu.pc + 1#16), busRead w (w.cpu.pc + 2#16)] = .ok (.ld_A_N8 0x0B, [0x00#8]) :=
  ⟨by decide +kernel, beforeCpu_iff.mpr rfl, by decide +kernel, by decide +kernel, rfl⟩

theorem witness_StepServicesOrIdles :
    (BeforeCpu (ready 0x10) (wake (devicesStep (ready 0x10))) ∧ let w := wake (devicesStep (ready 0x10))
     (ready 0x10).fault = none ∧ w.cpu.next = some (ready 0x10).cyc ∧ w.cpu.ime = true ∧
       w.cpu.ie &&& w.cpu.iflag &&& 0x1F#8 ≠ 0#8) ∧
    (let s := nextOf (step ld0B)
     s.fault = none ∧ (wake (devicesStep s)).cpu.next ≠ some s.cyc) :=
  ⟨⟨beforeCpu_iff.mpr rfl, by decide +kernel⟩, by decide +kernel⟩

/-- `61_scheduler.md` R453, `63_lcd_controller.md` R511, R540: in one cycle the Timer counts, the display is enabled and the DMA engine
copies; the byte it copies, TIMA, is the one after the Timer's count, and the next action is due after mode 2. -/
theorem test_devices_order :
    let s := { tm 0x000C 0x41 0x00 0x05 with lcd := { State.reset.lcd with lcdc := 0x80, dma := 0xFF, dmaIndex := 5 } }
    let t := nextOf (step s)
    t.timer.tima = 0x42 ∧ t.lcd.oam = [(5, 0x42)] ∧ t.lcd.dmaIndex = 6 ∧ t.lcd.next = some 20 ∧ t.lcd.stat = 0x02 := by
  decide +kernel

/-- The same rules: a DMA byte is copied before the line is drawn; here it is the Y that brings a sprite of tile 2 onto line 0. -/
theorem test_dma_before_line :
    let l := { gv 0x93 0xE4 [0x00, 0x08, 0x02, 0x00] id with stat := 0x02, next := some 0, dma := 0xC0, dmaIndex := 0 }
    let s := { State.reset with lcd := l, platform := { State.reset.platform with workRam := [(0, 0x10)] } }
    let t := nextOf (step s)
    t.lcd.mode = .m3 ∧ t.lcd.lines.map (fun k => (List.range 8).map k.colour) = [[3, 3, 1, 1, 2, 2, 2, 0]] := by decide +kernel

theorem witness_InterruptService :
    ((ready 0x1F).cpu.ie &&& (ready 0x1F).cpu.iflag &&& 0x1F#8).getLsbD 0 = true ∧
    ((ready 0x10).cpu.ie &&& (ready 0x10).cpu.iflag &&& 0x1F#8).getLsbD 4 = true ∧
    ∀ j, j < 4 → ((ready 0x10).cpu.ie &&& (ready 0x10).cpu.iflag &&& 0x1F#8).getLsbD j = false := by decide +kernel

theorem witness_ImeChanges_service : let w := wake (devicesStep (ready 0x01))
    step (ready 0x01) = .next (nextOf (step (ready 0x01))) ∧ (nextOf (step (ready 0x01))).cpu.ime ≠ (ready 0x01).cpu.ime ∧
    BeforeCpu (ready 0x01) w ∧ w.cpu.next = some (ready 0x01).cyc :=
  ⟨rfl, by decide +kernel, beforeCpu_iff.mpr rfl, by decide +kernel⟩

theorem witness_ImeChanges_instructions :
    (let s := State.reset.withFetchWord 8 0xFB
     step s = .next (nextOf (step s)) ∧ (nextOf (step s)).cpu.ime ≠ s.cpu.ime) ∧
    (let s := State.reset.withFetchWord 8 0xD9
     step s = .next (nextOf (step s)) ∧ (nextOf (step s)).cpu.ime ≠ s.cpu.ime) ∧
    (let s := (State.reset.withFetchWord 8 0xF3).setIme true
     step s = .next (nextOf (step s)) ∧ (nextOf (step s)).cpu.ime ≠ s.cpu.ime) :=
  ⟨⟨rfl, by decide +kernel⟩, ⟨rfl, by decide +kernel⟩, ⟨rfl, by decide +kernel⟩⟩

theorem witness_CounterOrFault : step ld0B = .next (nextOf (step ld0B)) ∧
    (let s := State.reset.withFetchWord 16 0x0010
     step s = .next (nextOf (step s)) ∧ (nextOf (step s)).fault = some .stop) := ⟨rfl, rfl, by decide +kernel⟩

theorem witness_StopsExactlyWhenLatched : ld0B.fault = none ∧
    (nextOf (step (State.reset.withFetchWord 8 0xD3))).fault = some (.illegal 0xD3) := by decide +kernel

/-- `60_exceptions.md` R401: a step that executes LD A,n8 is a safe run, one that executes an unused byte or STOP is none. -/
theorem test_fault_ends_no_safe_run :
    safeFor 1 ld0B ∧ ¬safeFor 1 (State.reset.withFetchWord 8 0xD3) ∧ ¬safeFor 1 (State.reset.withFetchWord 16 0x0010) :=
  have no : ∀ {s : State}, step s = .next (nextOf (step s)) → (nextOf (step s)).fault ≠ none → ¬safeFor 1 s := by
    rintro s hs hf ⟨t, ht, hr⟩
    rw [hs] at ht
    injection ht with ht
    exact hf (ht ▸ hr)
  ⟨⟨nextOf (step ld0B), rfl, (by decide +kernel : (nextOf (step ld0B)).fault = none)⟩, no rfl (by decide +kernel),
    no rfl (by decide +kernel)⟩

/-- A machine at cycle 7 whose display is on, in mode 2 of line 0, both scheduled for this cycle. -/
def displayOn : State :=
  let s := lc (fun l => { l with lcdc := 0x91, stat := 0x02, next := some 7 })
  { s with cyc := 7, cpu := { s.cpu with next := some 7 } }

theorem displayOn_inv : displayOn.Inv where
  params := by decide
  flagsLow := by decide
  counterLow := by decide
  memory := by decide +kernel
  cpuNext := by rintro n ⟨⟩; exact Nat.le_refl 7
  lcdNext := by rintro n ⟨⟩; exact Nat.le_refl 7
  dma := by decide
  frame := ⟨rfl, Nat.le_refl 0, Nat.zero_le _, rfl⟩
  image := by decide +kernel

theorem witness_StepKeepsInvariant : displayOn.Inv ∧ step displayOn = .next (nextOf (step displayOn)) := ⟨displayOn_inv, rfl⟩

/-- Reset values that are not the default: F with a nonzero low nibble, a byte in work RAM, a byte of a read-only region. -/
def otherReset : ResetValues :=
  { ResetValues.default with
    cpu := { ResetValues.default.cpu with regs := { ResetValues.default.cpu.regs with a := 0x01#8, f := 0xBF#8 } }
    workRam := [(0, 0x77#8)], rom := [(65536 + 0x10, 0xA5#8)] }

theorem otherReset_ok : otherReset.Ok where
  counterLow := by decide +kernel
  vram := by decide +kernel
  oam := by decide +kernel
  workRam := by decide +kernel
  highRam := by decide +kernel
  ram := by decide +kernel
  rom := by decide +kernel
  dma := by decide +kernel
  frame := ⟨rfl, rfl, rfl⟩
  image := by decide +kernel

/-- Reset clears the low nibble of the byte given for F (`10_state.md` R24). -/
theorem test_reset_masks_F : let s := State.resetWith Config.params otherReset (.image [])
    s.reg .f = 0xB0 ∧ s.reg .a = 0x01 := by decide +kernel

theorem witness_ResetInvariant : otherReset.Ok ∧
    Config.params.ok = true ∧ { Config.params with platform := [.rom 1 0x4000 0x7FFF], intCost := 1 }.ok = true ∧
    (Cartridge.image [(0, 0x3E#8), (0x7FFF, 0x0B#8)]).wf = true ∧ (Cartridge.oracle []).wf = true :=
  ⟨otherReset_ok, by decide +kernel⟩

theorem witness_HostKeepsInvariant : displayOn.Inv ∧
    (∀ a ∈ [HostAction.keyPressed .start, .keyReleased .right, .pullImage],
      (match hostAct a displayOn with | .next _ => true | _ => false) = true) ∧
    hostAct (.runUntil 8) displayOn = .next (nextOf (hostAct (.runUntil 8) displayOn)) :=
  ⟨displayOn_inv, by decide +kernel, rfl⟩

theorem witness_RunUntilReaches : 6 < displayOn.cyc ∧ displayOn.cyc < 8 ∧
    step displayOn = .next (nextOf (step displayOn)) ∧
    (nextOf (step (State.reset.withFetchWord 16 0x0010))).fault ≠ none ∧
    (nextOf (step (State.reset.withFetchWord 16 0x0010))).cyc ≤ 0 :=
  ⟨by decide, by decide, rfl, by decide +kernel, by decide +kernel⟩

theorem witness_RunsCompose : displayOn.cyc ≤ 8 ∧ 8 ≤ 9 ∧ runUntil 8 displayOn = .next (nextOf (runUntil 8 displayOn)) :=
  ⟨by decide, by decide, rfl⟩

theorem witness_TimerStep :
    [0#8, 1, 2, 3].map (fun tac => if tac &&& 3#8 = 0#8 then 9 else if tac &&& 3#8 = 1#8 then 3 else if tac &&& 3#8 = 2#8 then 5 else 7) =
      [9, 3, 5, 7] ∧
    (tm 0x000C 0xFF 0xAB 5).timer.counter.getLsbD 3 = true ∧ ((tm 0x000C 0xFF 0xAB 5).timer.counter + 4#16).getLsbD 3 = false := by
  decide +kernel

theorem witness_TimerPeriod : [4#8, 5, 6, 7, 0xFF].all (fun tac => (tm 0x1230 0xFE 0 tac).timer.tac.getLsbD 2 = true ∧
    (tm 0x1230 0xFE 0 tac).timer.tima ≠ 0xFF#8) = true := by decide +kernel

/-- Disabling the timer while its signal is 1, with TIMA at its largest. -/
theorem witness_TimerWrites : let s := tm 0x0008 0xFF 0xAB 5
    0xAB = (if s.timer.tima = 0xFF#8 then s.timer.tma else s.timer.tima + 1#8) ∧
    0x04 = (if s.timer.tima = 0xFF#8 then s.cpu.iflag ||| 0x04#8 else s.cpu.iflag) ∧
    true = (s.timer.signal && !((0x01#8).getLsbD 2 && s.timer.counter.getLsbD (selBit 0x01#8))) ∧
    (∀ r : TimerReg, s.claimants r.addr = [.timer]) ∧
    [0x0000#16, 0xFF03, 0xFF08, 0xFFFF].all (fun a => a.toNat < 0xFF04 ∨ 0xFF07 < a.toNat) = true :=
  ⟨by decide +kernel, by decide +kernel, by decide +kernel, fun r => by cases r <;> decide, by decide⟩

/-- `62_timer.md` R471, `63_lcd_controller.md` R494: DIV reads the high byte of the counter, STAT and LY as stored. -/
theorem test_reads_div_stat_ly :
    busRead (tm 0xABCC 0 0 0) 0xFF04 = 0xAB ∧
    (let s := lc fun l => { l with stat := 0xFD, ly := 0x77 }
     busRead s 0xFF41 = 0xFD ∧ busRead s 0xFF44 = 0x77) := by decide +kernel

theorem witness_DmaStep :
    [0, 159].all (fun k => (lc fun l => { l with dma := 0xC1, dmaIndex := k }).lcd.dmaIndex < 160 ∧
      (lc fun l => { l with dma := 0xC1, dmaIndex := k }).memoryWf = true) = true ∧
    BitVec.ofNat 16 (256 * (0xC1#8).toNat + 159) = 0xC19F#16 ∧ 160 ≤ State.reset.lcd.dmaIndex := by decide +kernel

theorem witness_ScanlineAction : (∃ stat : Nat → Byte, ∀ b, stat b = if (lc id).lcd.stat.getLsbD b = true then 2#8 else 0#8) ∧
    (∃ lyc : Byte → Byte, ∀ v, lyc v = if v = (lc id).lcd.lyc ∧ (lc id).lcd.stat.getLsbD 6 = true then 2#8 else 0#8) ∧
    [0x02#8, 0x03, 0x00, 0x01].map (fun stat => (lc fun l => { l with stat := stat }).lcd.mode) = [.m2, .m3, .m0, .m1] ∧
    [143#8, 142, 153, 152].map (fun ly => decide ((lc fun l => { l with ly := ly }).lcd.ly = 143#8)) = [true, false, false, false] ∧
    [143#8, 142, 153, 152].map (fun ly => decide ((lc fun l => { l with ly := ly }).lcd.ly = 153#8)) = [false, false, true, false] :=
  ⟨⟨_, fun _ => rfl⟩, ⟨_, fun _ => rfl⟩, by decide +kernel⟩

theorem witness_LcdRegisterWrites :
    true = ((lc fun l => { l with lcdc := 0x80 }).lcd.lcdc.getLsbD 7 && !(0x7F#8).getLsbD 7) ∧
    false = ((lc fun l => { l with lcdc := 0x80 }).lcd.lcdc.getLsbD 7 && !(0x80#8).getLsbD 7) ∧
    (∀ r : LcdReg, (lc fun l => { l with lcdc := 0x80 }).claimants r.addr = [.lcd]) ∧
    [0x8000#16, 0x9FFF].all (fun a => 0x8000 ≤ a.toNat ∧ a.toNat ≤ 0x9FFF) = true ∧
    [0xFE00#16, 0xFE9F].all (fun a => 0xFE00 ≤ a.toNat ∧ a.toNat ≤ 0xFE9F) = true ∧
    [0x0000#16, 0x7FFF, 0xA000, 0xFDFF, 0xFEA0, 0xFF3F, 0xFF4C, 0xFFFF].all (fun a =>
      a.toNat < 0x8000 ∨ (0x9FFF < a.toNat ∧ a.toNat < 0xFE00) ∨ (0xFE9F < a.toNat ∧ a.toNat < 0xFF40) ∨ 0xFF4B < a.toNat) = true :=
  ⟨by decide +kernel, by decide +kernel, fun r => by cases r <;> decide, by decide, by decide, by decide⟩

theorem witness_JoypadEvents : State.reset.claimants 0xFF00#16 = [.joypad] ∧ ∃ low : State → Fin 4 → Bool, ∀ t b, low t b =
    (t.joypad.sel.getLsbD 0 && t.joypad.line0.getLsbD b.val || t.joypad.sel.getLsbD 1 && t.joypad.line1.getLsbD b.val) :=
  ⟨by decide, _, fun _ _ => rfl⟩

/-- The range of a read-only region at its two ends; work RAM is asked before its echo; nobody answers on an empty bus. -/
theorem witness_BusReadsAfterWrites_platform :
    (st.params.platform = [.workRam] ++ Participant.echo :: [.cpu, .highRam, .timer, .lcd, .joypad, .cartridge] ∧
      (∀ q ∈ [Participant.workRam], participantRead q st 0xE001 = none) ∧ participantRead .echo st 0xE001 = some 0x12) ∧
    (let s := { State.reset with params := { Config.params with platform := [] } }
     ∀ p ∈ s.params.platform, participantRead p s 0 = none) ∧
    ([0x4000#16, 0x40FF].all (inRange 0x4000 0x40FF) = true ∧ [0x3FFF#16, 0x4100].any (inRange 0x4000 0x40FF) = false) := by
  decide +kernel

theorem witness_BusReadsAfterWrites : DefaultPlatform st ∧ st.memoryWf = true ∧
    [0x8000#16, 0x9FFF, 0xC000, 0xDFFF, 0xE000, 0xFDFF, 0xFE00, 0xFE9F, 0xFF05, 0xFF06, 0xFF07, 0xFF0F, 0xFF40, 0xFF42, 0xFF43,
      0xFF45, 0xFF4B, 0xFF80, 0xFFFE, 0xFFFF].all plainStorage = true ∧
    [0x7FFF#16, 0xA000, 0xBFFF, 0xFEA0, 0xFEFF, 0xFF00, 0xFF04, 0xFF41, 0xFF44, 0xFF4C, 0xFF7F].any plainStorage = false ∧
    writeReaches st 0xC000 0xC001 = false ∧ writeReaches st 0xC000 0xE000 = true ∧ inEcho 0xE000 = true ∧ inEcho 0xFDFF = true ∧
    [0xFEA0#16, 0xFEFF, 0xFF01, 0xFF03, 0xFF08, 0xFF0E, 0xFF10, 0xFF3F, 0xFF4C, 0xFF7F].all (fun a =>
      (0xFEA0 ≤ a.toNat ∧ a.toNat ≤ 0xFEFF) ∨ (0xFF01 ≤ a.toNat ∧ a.toNat ≤ 0xFF03) ∨ (0xFF08 ≤ a.toNat ∧ a.toNat ≤ 0xFF0E) ∨
      (0xFF10 ≤ a.toNat ∧ a.toNat ≤ 0xFF3F) ∨ (0xFF4C ≤ a.toNat ∧ a.toNat ≤ 0xFF7F)) = true := by decide +kernel

theorem witness_RotateInverse : (1#32).toNat < 2 ^ 1 ∧ 2 ^ 1 ≤ (2#32).toNat ∧ (0xFFFFFFFF#32).toNat < 2 ^ 32 ∧
    2 ^ 31 ≤ (0x80000000#32).toNat := by decide

/-- A line under another, and a column of it. -/
theorem witness_ImageLaws : 31 < 32 ∧ 0 < 32 ∧ 159 < 160 ∧ ((0 : Int) ≤ 3 ∧ (0 : Int) ≤ 0) ∧ ((-5 : Int) ≤ 0 ∧ (0 : Int) ≤ 0) := by decide

theorem witness_CompositePixels : (0 < 160 ∧ 159 < 160) ∧
    (gv 0x91 0xE4 [] id).lcdc.getLsbD 1 = false ∧ (gv 0x92 0xE4 [] id).lcdc.getLsbD 1 = true ∧
    (gv 0xB0 0xE4 [] id).lcdc.getLsbD 0 = false ∧ (gv 0xB0 0xE4 [] id).lcdc.getLsbD 1 = false ∧
    [(0x90, 0, 7), (0xB0, 1, 7), (0xB0, 0, 6), (0xB0, 0, 167)].all (fun p =>
      let l := gv p.1 0xE4 [] fun l => { l with wy := p.2.1, wx := p.2.2 }
      l.lcdc.getLsbD 5 = false ∨ 0 < l.wy.toNat ∨ l.wx.toNat < 7 ∨ 167 ≤ l.wx.toNat) = true := by decide +kernel

/-- Column 3 of line 0 over tile 1; the signed tile numbers at both ends of their range. -/
theorem witness_BackgroundPixels :
    (let l := gv 0x91 0xE4 [] id
     3 = (3 + l.scx.toNat) % 256 ∧ 0 = (0 + l.scy.toNat) % 256 ∧
     0x01 = l.vramAt ((if l.lcdc.getLsbD 3 then 0x9C00 else 0x9800) + 32 * (0 / 8) + 3 / 8) ∧
     0x8010 = (if l.lcdc.getLsbD 4 then 0x8000 + 16 * (0x01#8).toNat else (0x9000 + 16 * (0x01#8).toInt).toNat) + 2 * (0 % 8) ∧
     3 = 2 * ((l.vramAt (0x8010 + 1)).getLsbD (7 - 3 % 8)).toNat + ((l.vramAt 0x8010).getLsbD (7 - 3 % 8)).toNat ∧
     l.lcdc.getLsbD 0 = true) ∧
    (gv 0x90 0xE4 [] id).lcdc.getLsbD 0 = false ∧
    [0x80#8, 0x7F].map (fun idx => (0x9000 + 16 * idx.toInt).toNat) = [0x8800, 0x97F0] := by decide +kernel

theorem witness_WindowPixels :
    [(7, 0), (166, 0), (6, 0), (167, 0)].map (fun p =>
      let l := gv 0xF1 0xE4 [] fun l => { l with wx := BitVec.ofNat 8 p.1, wy := 0 }
      l.lcdc.getLsbD 5 && decide (l.wy.toNat ≤ p.2) && decide (7 ≤ l.wx.toNat) && decide (l.wx.toNat - 7 < 160)) =
      [true, true, false, false] ∧
    (let l := gv 0xF1 0xE4 [] fun l => { l with wx := 0x0B, vram := l.vram.store 0x1C00 2 }
     0 = 4 - (l.wx.toNat - 7) ∧ l.wx.toNat - 7 ≤ 4 ∧ 3 < l.wx.toNat - 7 ∧
     0x02 = l.vramAt ((if l.lcdc.getLsbD 6 then 0x9C00 else 0x9800) + 32 * (l.winY / 8) + 0 / 8) ∧
     0x8020 = (if l.lcdc.getLsbD 4 then 0x8000 + 16 * (0x02#8).toNat else (0x9000 + 16 * (0x02#8).toInt).toNat) + 2 * (l.winY % 8) ∧
     3 = 2 * ((l.vramAt (0x8020 + 1)).getLsbD (7 - 0 % 8)).toNat + ((l.vramAt 0x8020).getLsbD (7 - 0 % 8)).toNat) := by
  decide +kernel

/-- An entry that meets line 0 with its first and line 7 with its last row, at the columns at and beside the ends of its eight. -/
theorem witness_SpriteSelection_line : let l := gv 0x93 0xE4 [0x10, 0x0C, 0x02, 0x00] id
    [0, 7].all (fun y => decide ((l.oamAt 0).toNat ≤ y + 16) && decide (y + 16 < (l.oamAt 0).toNat + 8)) = true ∧
    [3, 4, 11, 12].map (fun x => decide ((l.oamAt 1).toNat ≤ x + 8 ∧ x < (l.oamAt 1).toNat)) = [false, true, true, false] := by
  decide +kernel

theorem witness_SpriteSelection : let l := gv 0x93 0xE4 [0x10, 0x0C, 0x02, 0x00, 0x10, 0x0A, 0x02, 0x10] id
    ∃ (on : Nat → Bool) (key : Nat → Nat),
      (∀ i, on i = (decide ((l.oamAt (4 * i)).toNat ≤ 0 + 16) &&
        decide (0 + 16 < (l.oamAt (4 * i)).toNat + (if l.lcdc.getLsbD 2 then 16 else 8)))) ∧
      (∀ i, key i = 256 * (l.oamAt (4 * i + 1)).toNat + i) ∧ [1, 0] = l.selectSprites 0 :=
  ⟨_, _, fun _ => rfl, fun _ => rfl, by decide +kernel⟩

end Sys2Proof.Tests
end

/-! PROOFS. The invariant of the machine: it holds at reset, and every step keeps it. A step passes three stages, each with its
own form of the invariant: `State.Inv` at the cycle's start, `State.InvAt` once the LCD controller has had its turn, and
`State.ActDone` once the Cpu has had its own. -/

namespace Sys2Proof.Machine

/-! ## The invariant by parts -/

/-- What the invariant asks of the LCD controller, whose next action is at cycle c or later. -/
structure Lcd.Ok (c : Nat) (l : Lcd) : Prop where
  next : ∀ n, l.next = some n → c ≤ n
  dma : l.dmaIndex ≤ 160
  frame : l.frameOk
  image : l.image.wf = true

/-- The invariant in cycle `now`, the LCD controller's next action at cycle c or later: `State.Inv` is the case that c is `now`
(`inv_iff_invAt`); after the controller's turn c is the next cycle. -/
structure State.InvAt (now c : Nat) (s : State) : Prop where
  cyc : s.cyc = now
  params : s.params.ok = true
  flagsLow : s.cpu.regs.f &&& 0x0F#8 = 0#8
  counterLow : s.timer.counter &&& 3#16 = 0#16
  memory : s.memoryWf = true
  cpuNext : ∀ n, s.cpu.next = some n → now ≤ n
  lcd : s.lcd.Ok c

/-- What holds when the Cpu's turn in cycle `now` is over: the LCD controller acts in a later cycle, and so does the Cpu, if no
fault is latched. -/
structure State.ActDone (now : Nat) (s : State) : Prop extends s.InvAt now (now + 1) where
  ahead : s.fault = none → ∀ n, s.cpu.next = some n → now < n

theorem inv_iff_invAt {s : State} : s.Inv ↔ s.InvAt s.cyc s.cyc :=
  ⟨fun h => ⟨rfl, h.params, h.flagsLow, h.counterLow, h.memory, h.cpuNext, ⟨h.lcdNext, h.dma, h.frame, h.image⟩⟩,
    fun h => ⟨h.params, h.flagsLow, h.counterLow, h.memory, h.cpuNext, h.lcd.next, h.lcd.dma, h.lcd.frame, h.lcd.image⟩⟩

theorem State.InvAt.inv {now : Nat} {s : State} (h : s.InvAt now now) : s.Inv := inv_iff_invAt.mpr (h.cyc.symm ▸ h)

theorem Lcd.Ok.mono {c d : Nat} {l : Lcd} (h : l.Ok d) (hcd : c ≤ d) : l.Ok c :=
  ⟨fun n hn => Nat.le_trans hcd (h.next n hn), h.dma, h.frame, h.image⟩

/-- At the end of the cycle the counter may advance. -/
theorem State.ActDone.advance_inv {now : Nat} {s : State} (h : s.ActDone now) : (advance s).Inv := by
  obtain ⟨⟨rfl, hp, hf, hc, hm, hn, hl⟩, ha⟩ := h
  refine inv_iff_invAt.mpr ?_
  unfold advance
  split
  case isTrue hfault => exact ⟨rfl, hp, hf, hc, hm, ha hfault, hl⟩
  case isFalse => exact ⟨rfl, hp, hf, hc, hm, hn, hl.mono (Nat.le_succ _)⟩

/-! ## The Cpu's own state -/

theorem and_F0_and_0F (v : Byte) : v &&& 0xF0#8 &&& 0x0F#8 = 0#8 := by
  rw [BitVec.and_assoc, show 0xF0#8 &&& 0x0F#8 = 0#8 by decide, BitVec.and_zero]

/-- A write to any register, F among them, leaves the low nibble of F clear (`10_state.md` R24). -/
theorem Regs.set_flagsLow {g : Regs} (h : g.f &&& 0x0F#8 = 0#8) (r : Reg) (v : Byte) : (g.set r v).f &&& 0x0F#8 = 0#8 := by
  cases r
  case f => exact and_F0_and_0F v
  all_goals exact h

section
variable {now c : Nat} {s : State}

theorem State.InvAt.withCpu (h : s.InvAt now c) (k : Cpu) (hf : k.regs.f &&& 0x0F#8 = 0#8)
    (hn : ∀ n, k.next = some n → now ≤ n) : State.InvAt now c { s with cpu := k } :=
  ⟨h.cyc, h.params, hf, h.counterLow, h.memory, hn, h.lcd⟩

@[simp] theorem invAt_setReg (h : s.InvAt now c) (r : Reg) (v : Byte) : (s.setReg r v).InvAt now c :=
  h.withCpu _ (Regs.set_flagsLow h.flagsLow r v) h.cpuNext

@[simp] theorem invAt_setR8 (h : s.InvAt now c) (r : R8) (v : Byte) : (s.setR8 r v).InvAt now c := invAt_setReg h _ _

@[simp] theorem invAt_setRegBit (h : s.InvAt now c) (r : Reg) (i : Fin 8) (b : Bool) : (s.setRegBit r i b).InvAt now c :=
  invAt_setReg h _ _

@[simp] theorem invAt_setFlags (h : s.InvAt now c) (t : FlagTuple) (f : Flags) : (s.setFlags t f).InvAt now c :=
  invAt_setReg h _ _

@[simp] theorem invAt_setPair (h : s.InvAt now c) (p : Pair) (v : Addr) : (s.setPair p v).InvAt now c :=
  invAt_setReg (invAt_setReg h _ _) _ _

@[simp] theorem invAt_setSp (h : s.InvAt now c) (v : Addr) : (s.setSp v).InvAt now c := h.withCpu _ h.flagsLow h.cpuNext

@[simp] theorem invAt_popped (h : s.InvAt now c) : (popped s).InvAt now c := invAt_setSp h _

@[simp] theorem invAt_setIme (h : s.InvAt now c) (b : Bool) : (s.setIme b).InvAt now c := h.withCpu _ h.flagsLow h.cpuNext

@[simp] theorem invAt_acknowledge (h : s.InvAt now c) (i : Source) : (acknowledge i s).InvAt now c :=
  h.withCpu _ h.flagsLow h.cpuNext

@[simp] theorem invAt_setR16sp (h : s.InvAt now c) (p : R16sp) (v : Addr) : (s.setR16sp p v).InvAt now c := by
  cases p
  case sp => exact invAt_setSp h v
  all_goals exact invAt_setPair h _ v

@[simp] theorem invAt_stepHl (h : s.InvAt now c) (m : R16mem) : (s.stepHl m).InvAt now c := by
  cases m
  case bc | de => exact h
  case hlInc | hlDec => exact invAt_setPair h _ _

@[simp] theorem invAt_aluA (h : s.InvAt now c) (o : AluOp) (x : Byte) : (s.aluA o x).InvAt now c := by
  by_cases ho : o = .cp
  · rw [ho]; exact invAt_setFlags h _ _
  · rw [aluA_ne_cp s o x ho]; exact invAt_setR8 (invAt_setFlags h _ _) _ _

/-- The wake test schedules the Cpu for the current cycle. -/
theorem invAt_wake (h : s.InvAt now c) : (wake s).InvAt now c := by
  unfold wake
  split
  · exact h.withCpu _ h.flagsLow fun _ hn => Nat.le_of_eq (h.cyc.symm.trans (Option.some.inj hn))
  · exact h

end

/-! ## The Timer -/

@[simp] theorem incIfFalling_counter (s : State) (s0 : Bool) : (incIfFalling s0 s).timer.counter = s.timer.counter := by
  unfold incIfFalling
  split
  · split <;> rfl
  · rfl

@[simp] theorem timerStep_counter (s : State) : (timerStep s).timer.counter = s.timer.counter + 4#16 := incIfFalling_counter _ _

theorem and_three_eq_zero_iff (x : BitVec 16) : x &&& 3#16 = 0#16 ↔ x.toNat % 4 = 0 := by
  rw [← BitVec.toNat_inj, BitVec.toNat_and]
  exact iff_of_eq (congrArg (· = 0) (Nat.and_two_pow_sub_one_eq_mod x.toNat 2))

theorem timerStep_inv {s : State} (h : s.Inv) : (timerStep s).Inv where
  params := by simpa using h.params
  flagsLow := by simpa using h.flagsLow
  counterLow := by
    have hc := (and_three_eq_zero_iff _).mp h.counterLow
    rw [timerStep_counter, and_three_eq_zero_iff, BitVec.toNat_add, BitVec.toNat_ofNat]
    omega
  memory := by simpa [State.memoryWf] using h.memory
  cpuNext := by simpa using h.cpuNext
  lcdNext := by simpa using h.lcdNext
  dma := by simpa using h.dma
  frame := by simpa using h.frame
  image := by simpa using h.image

/-- A write to a Timer register clears the main counter or leaves it alone. -/
theorem writeTimerReg_counter (s : State) (r : TimerReg) (v : Byte) :
    (writeTimerReg s r v).timer.counter = if r = .div then 0#16 else s.timer.counter := by
  cases r
  case div | tac => exact incIfFalling_counter _ _
  case tima | tma => rfl

theorem timerWrite_counterLow {s : State} (h : s.timer.counter &&& 3#16 = 0#16) (a : Addr) (v : Byte) :
    (timerWrite s a v).timer.counter &&& 3#16 = 0#16 := by
  unfold timerWrite
  split
  · rw [writeTimerReg_counter]
    split
    · rfl
    · exact h
  · exact h

/-! ## The LCD controller's frame -/

/-- Line `ly` and `n` drawn lines fit the mode while the display runs (`63_lcd_controller.md` R513). -/
def Mode.Fits (ly n : Nat) : Mode → Prop
  | .m2 => ly ≤ 143 ∧ n = ly
  | .m3 => ly ≤ 143 ∧ n = ly + 1
  | .m0 => ly ≤ 143 ∧ n = ly + 1
  | .m1 => 144 ≤ ly ∧ ly ≤ 153 ∧ n = 144

theorem Lcd.frameOk_none {l : Lcd} (hn : l.next = none) : l.frameOk ↔ l.ly = 0#8 ∧ l.mode = .m0 ∧ l.lines = [] := by
  simp only [Lcd.frameOk, hn]

theorem Lcd.frameOk_some {l : Lcd} {n : Nat} (hn : l.next = some n) :
    l.frameOk ↔ l.lcdc.getLsbD 7 = true ∧ l.winY ≤ l.lines.length ∧ l.mode.Fits l.ly.toNat l.lines.length := by
  simp only [Lcd.frameOk, hn]
  cases l.mode <;> rfl

/-- The mode is two bits of STAT. -/
theorem Lcd.mode_congr {l k : Lcd} (h0 : l.stat.getLsbD 0 = k.stat.getLsbD 0) (h1 : l.stat.getLsbD 1 = k.stat.getLsbD 1) :
    l.mode = k.mode := by
  simp only [Lcd.mode, h0, h1]

@[simp] theorem Lcd.mode_withMode (l : Lcd) (m : Mode) : (l.withMode m).mode = m := by
  cases m <;> simp [Lcd.mode, Lcd.withMode, Mode.code]

/-- The frame looks at no more of STAT than the mode. -/
theorem Lcd.frameOk_stat {l : Lcd} (h : l.frameOk) {v : Byte} (h0 : v.getLsbD 0 = l.stat.getLsbD 0)
    (h1 : v.getLsbD 1 = l.stat.getLsbD 1) : Lcd.frameOk { l with stat := v } := by
  have hm : Lcd.mode { l with stat := v } = l.mode := Lcd.mode_congr h0 h1
  simpa only [Lcd.frameOk, hm] using h

/-- The frame looks at no more of LCDC than the enable bit, and not at that while nothing is scheduled. -/
theorem Lcd.frameOk_lcdc {l : Lcd} (h : l.frameOk) {v : Byte} (hv : l.lcdc.getLsbD 7 = true → v.getLsbD 7 = true) :
    Lcd.frameOk { l with lcdc := v } := by
  obtain hn | ⟨n, hn⟩ := Option.eq_none_or_eq_some l.next
  · exact (Lcd.frameOk_none (l := { l with lcdc := v }) hn).mpr ((Lcd.frameOk_none hn).mp h)
  · obtain ⟨hc, hw, hf⟩ := (Lcd.frameOk_some hn).mp h
    exact (Lcd.frameOk_some (l := { l with lcdc := v }) hn).mpr ⟨hv hc, hw, hf⟩

theorem getLsbD_bitSet_two (v : Byte) (b : Bool) :
    (bitSet v 2 b).getLsbD 0 = v.getLsbD 0 ∧ (bitSet v 2 b).getLsbD 1 = v.getLsbD 1 := by
  cases b <;> simp [bitSet]

@[simp] theorem compareLy_lcd (s : State) :
    (compareLy s).lcd = { s.lcd with stat := bitSet s.lcd.stat 2 (s.lcd.ly == s.lcd.lyc) } := requestIf_lcd _ _ _

@[simp] theorem setLy_lcd (v : Byte) (s : State) :
    (setLy v s).lcd = { s.lcd with ly := v, stat := bitSet s.lcd.stat 2 (v == s.lcd.lyc) } := compareLy_lcd _

@[simp] theorem enterMode_lcd (m : Mode) (s : State) : (enterMode m s).lcd = s.lcd.withMode m := by
  simp only [enterMode, requestIf_lcd]

/-! ## The LCD controller's registers -/

section
variable {now c : Nat} {s : State}

/-- Disabling the display leaves the controller in the frame in which nothing is scheduled (`63_lcd_controller.md` R516). -/
theorem lcdDisable_ok (hd : s.lcd.dmaIndex ≤ 160) (hi : s.lcd.image.wf = true) : (lcdDisable s).lcd.Ok c where
  next := by rintro n ⟨⟩
  dma := by simpa [lcdDisable, Lcd.withMode] using hd
  frame := by
    refine (Lcd.frameOk_none rfl).mpr ⟨?_, ?_, rfl⟩
    · simp [lcdDisable, Lcd.withMode]
    · exact Lcd.mode_withMode _ .m0
  image := by simpa [lcdDisable, Lcd.withMode] using hi

theorem writeLcdc_ok (h : s.lcd.Ok c) (v : Byte) : (writeLcdc s v).lcd.Ok c := by
  simp only [writeLcdc, Bool.and_eq_true, Bool.not_eq_true']
  split
  case isTrue => exact lcdDisable_ok h.dma h.image
  case isFalse hv =>
    exact ⟨h.next, h.dma, Lcd.frameOk_lcdc h.frame fun hc => by simpa [hc] using hv, h.image⟩

theorem writeStat_ok (h : s.lcd.Ok c) (v : Byte) : (writeStat s v).lcd.Ok c :=
  ⟨h.next, h.dma, Lcd.frameOk_stat h.frame (by simp) (by simp), h.image⟩

theorem writeLyc_ok (h : s.lcd.Ok c) (v : Byte) : (writeLyc s v).lcd.Ok c := by
  obtain ⟨h0, h1⟩ := getLsbD_bitSet_two s.lcd.stat (s.lcd.ly == v)
  rw [writeLyc, compareLy_lcd]
  exact ⟨h.next, h.dma, Lcd.frameOk_stat (l := { s.lcd with lyc := v }) h.frame h0 h1, h.image⟩

/-- Every write to a register keeps the controller's part of the invariant; a write to DMA sets the index to 0. -/
theorem writeLcdReg_ok (h : s.lcd.Ok c) (r : LcdReg) (v : Byte) : (writeLcdReg s r v).lcd.Ok c := by
  cases r
  case lcdc => exact writeLcdc_ok h v
  case stat => exact writeStat_ok h v
  case lyc => exact writeLyc_ok h v
  case dma => exact ⟨h.next, Nat.zero_le _, h.frame, h.image⟩
  case ly => exact h
  all_goals exact ⟨h.next, h.dma, h.frame, h.image⟩

theorem lcdWrite_ok (h : s.lcd.Ok c) (a : Addr) (v : Byte) : (lcdWrite s a v).lcd.Ok c := by
  unfold lcdWrite
  split
  · exact ⟨h.next, h.dma, h.frame, h.image⟩
  · split
    · exact ⟨h.next, h.dma, h.frame, h.image⟩
    · split
      · exact writeLcdReg_ok h _ v
      · exact h

/-! ## The bus -/

@[simp] theorem cpuWrite_timer (s : State) (a : Addr) (v : Byte) : (cpuWrite s a v).timer = s.timer := by
  unfold cpuWrite
  split
  · rfl
  · split <;> rfl

@[simp] theorem cpuWrite_lcd (s : State) (a : Addr) (v : Byte) : (cpuWrite s a v).lcd = s.lcd := by
  unfold cpuWrite
  split
  · rfl
  · split <;> rfl

/-- Of the participants only the Timer and the LCD controller write the registers of the two. -/
theorem participantWrite_devices (p : Participant) (s : State) (a : Addr) (v : Byte) :
    ((participantWrite p s a v).timer = s.timer ∨ (participantWrite p s a v).timer = (timerWrite s a v).timer) ∧
      ((participantWrite p s a v).lcd = s.lcd ∨ (participantWrite p s a v).lcd = (lcdWrite s a v).lcd) := by
  cases p
  case timer => exact ⟨.inr rfl, .inl (timerWrite_lcd s a v)⟩
  case lcd => exact ⟨.inl (lcdWrite_timer s a v), .inr rfl⟩
  case cpu => exact ⟨.inl (cpuWrite_timer s a v), .inl (cpuWrite_lcd s a v)⟩
  case joypad => exact ⟨.inl (joypadWrite_timer s a v), .inl (joypadWrite_lcd s a v)⟩
  case cartridge | rom => exact ⟨.inl rfl, .inl rfl⟩
  all_goals simp only [participantWrite]; split <;> exact ⟨.inl rfl, .inl rfl⟩

theorem invAt_participantWrite (h : s.InvAt now c) (p : Participant) (a : Addr) (v : Byte) :
    (participantWrite p s a v).InvAt now c where
  cyc := by simpa using h.cyc
  params := by simpa using h.params
  flagsLow := by simpa using h.flagsLow
  counterLow := by
    rcases (participantWrite_devices p s a v).1 with ht | ht <;> rw [ht]
    · exact h.counterLow
    · exact timerWrite_counterLow h.counterLow a v
  memory := participantWrite_memoryWf h.memory p a v
  cpuNext := by simpa using h.cpuNext
  lcd := by
    rcases (participantWrite_devices p s a v).2 with hl | hl <;> rw [hl]
    · exact h.lcd
    · exact lcdWrite_ok h.lcd a v

@[simp] theorem invAt_busWrite (h : s.InvAt now c) (a : Addr) (v : Byte) : (busWrite s a v).InvAt now c :=
  busWrite_inv (P := State.InvAt now c) (fun _ p a v h => invAt_participantWrite h p a v) h a v

@[simp] theorem invAt_busWrite16 (h : s.InvAt now c) (a v : Addr) : (busWrite16 s a v).InvAt now c :=
  invAt_busWrite (invAt_busWrite h _ _) _ _

@[simp] theorem invAt_push16 (h : s.InvAt now c) (v : Addr) : (push16 s v).InvAt now c :=
  invAt_busWrite16 (invAt_setSp h _) _ _

end

/-! ## The LCD controller's turn -/

/-- A part of the LCD controller's turn changes its own registers and IF alone. -/
theorem State.InvAt.of_lcd {now c d : Nat} {s t : State} (h : s.InvAt now c) (hl : t.lcd.Ok d)
    (stores : Memory.wf 8192 t.lcd.vram = true ∧ Memory.wf 160 t.lcd.oam = true)
    (cyc : t.cyc = s.cyc := by simp) (params : t.params = s.params := by simp) (regs : t.cpu.regs = s.cpu.regs := by simp)
    (next : t.cpu.next = s.cpu.next := by simp) (timer : t.timer = s.timer := by simp)
    (platform : t.platform = s.platform := by simp) : t.InvAt now d where
  cyc := cyc.trans h.cyc
  params := params ▸ h.params
  flagsLow := regs ▸ h.flagsLow
  counterLow := timer ▸ h.counterLow
  memory := by
    have hm := h.memory
    simp only [State.memoryWf, Bool.and_eq_true, platform] at hm ⊢
    obtain ⟨⟨⟨⟨⟨-, hw⟩, hh⟩, hc⟩, hx⟩, hr⟩ := hm
    exact ⟨⟨⟨⟨⟨stores, hw⟩, hh⟩, hc⟩, hx⟩, hr⟩
  cpuNext := next ▸ h.cpuNext
  lcd := hl

theorem memoryWf_lcd {s : State} (h : s.memoryWf = true) :
    Memory.wf 8192 s.lcd.vram = true ∧ Memory.wf 160 s.lcd.oam = true := by
  simp only [State.memoryWf, Bool.and_eq_true] at h
  obtain ⟨⟨⟨⟨⟨hvo, -⟩, -⟩, -⟩, -⟩, -⟩ := h
  exact hvo

theorem dmaStep_inv {s : State} (h : s.Inv) : (dmaStep s).Inv := by
  unfold dmaStep
  split
  case isFalse => exact h
  case isTrue hi =>
    have hok : Lcd.Ok s.cyc { s.lcd with
        oam := s.lcd.oam.store s.lcd.dmaIndex (busRead s (dmaSource s.lcd)), dmaIndex := s.lcd.dmaIndex + 1 } :=
      ⟨h.lcdNext, hi, h.frame, h.image⟩
    obtain ⟨hv, ho⟩ := memoryWf_lcd h.memory
    refine State.InvAt.inv (now := s.cyc) ?_
    exact (inv_iff_invAt.mp h).of_lcd hok ⟨hv, Memory.wf_store ho _ hi⟩

/-- What the invariant asks of an LCD controller whose display is enabled, in any mode. -/
structure Lcd.Enabled (l : Lcd) : Prop where
  on : l.lcdc.getLsbD 7 = true
  window : l.winY ≤ l.lines.length
  dma : l.dmaIndex ≤ 160
  image : l.image.wf = true

/-- What the invariant asks of an LCD controller that runs in mode m, besides its schedule. -/
structure Lcd.Running (m : Mode) (l : Lcd) : Prop extends l.Enabled where
  mode : l.mode = m
  fits : m.Fits l.ly.toNat l.lines.length

theorem Lcd.Ok.running {c n : Nat} {l : Lcd} (h : l.Ok c) (hn : l.next = some n) : l.Running l.mode :=
  have ⟨hc, hw, hf⟩ := (Lcd.frameOk_some hn).mp h.frame
  ⟨⟨hc, hw, h.dma, h.image⟩, rfl, hf⟩

/-- A schedule ends every part of the controller's turn. -/
theorem Lcd.Running.schedule {s : State} {m : Mode} (h : s.lcd.Running m) {k : Nat} (hk : 1 ≤ k) :
    (lcdSchedule k s).lcd.Ok (s.cyc + 1) where
  next := by rintro n ⟨⟩; exact Nat.add_le_add_left hk s.cyc
  dma := h.dma
  frame := (Lcd.frameOk_some rfl).mpr ⟨h.on, h.window, h.mode ▸ h.fits⟩
  image := h.image

/-- The window line counter counts at most one line per line (R524). -/
theorem Lcd.computeLine_window_le (l : Lcd) (y : Nat) : (l.computeLine y).2 ≤ l.winY + 1 := by
  have hw : ∀ bg, (l.windowOver bg y).2 ≤ l.winY + 1 := by
    intro bg
    unfold Lcd.windowOver
    split
    · exact Nat.le_refl _
    · exact Nat.le_succ _
  unfold Lcd.computeLine
  dsimp only
  split <;> exact hw _

section
variable {s : State} (h : s.lcd.Enabled)
include h

theorem setLy_enabled (v : Byte) : (setLy v s).lcd.Enabled := by
  rw [setLy_lcd]
  exact ⟨h.on, h.window, h.dma, h.image⟩

theorem freshFrame_enabled : (freshFrame s).lcd.Enabled := ⟨h.on, Nat.le_refl 0, h.dma, h.image⟩

theorem enterMode_running {m : Mode} (hf : m.Fits s.lcd.ly.toNat s.lcd.lines.length) : (enterMode m s).lcd.Running m := by
  rw [enterMode_lcd]
  exact ⟨⟨h.on, h.window, h.dma, h.image⟩, Lcd.mode_withMode _ m, hf⟩

/-- The line drawn on entering mode 3 is line LY. -/
theorem drawLine_running (hy : s.lcd.ly.toNat ≤ 143) (hl : s.lcd.lines.length = s.lcd.ly.toNat) :
    (drawLine (enterMode .m3 s)).lcd.Running .m3 := by
  simp only [drawLine, enterMode_lcd]
  refine ⟨⟨h.on, ?_, h.dma, h.image⟩, Lcd.mode_withMode s.lcd .m3, hy, ?_⟩
  · exact List.length_append ▸ Nat.le_trans (Lcd.computeLine_window_le _ _) (Nat.succ_le_succ h.window)
  · exact List.length_append.trans (congrArg (· + 1) hl)

/-- The image published at the end of the frame has all 144 lines (`64_lcd_image.md` R590). -/
theorem publish_running {m : Mode} (hf : m.Fits s.lcd.ly.toNat s.lcd.lines.length) (hl : s.lcd.lines.length = 144) :
    (publish (enterMode m s)).lcd.Running m := by
  obtain ⟨⟨hc, hw, hd, -⟩, hm, hf⟩ := enterMode_running h hf
  refine ⟨⟨hc, hw, hd, ?_⟩, hm, hf⟩
  simp [publish, LcdImage.wf, Lcd.withMode, hl]

end

theorem params_ok_iff {p : Params} : p.ok = true ↔ 1 ≤ p.intCost ∧ 1 ≤ p.mode2Cycles ∧ 1 ≤ p.mode3Cycles ∧
    1 ≤ p.mode0Cycles ∧ 1 ≤ p.vblankLineCycles ∧ ∀ e ∈ p.cost, 1 ≤ e.2.cycles := by
  simp [Params.ok, and_assoc]

/-- No line number of a running display overflows. -/
theorem toNat_nextLine {y : Byte} (h : y.toNat ≤ 153) : (y + 1#8).toNat = y.toNat + 1 := by
  rw [BitVec.toNat_add, BitVec.toNat_ofNat]
  omega

section
variable {s : State} (hp : s.params.ok = true)
include hp

/-- The display's enabling, noticed while nothing is scheduled: mode 2 of line 0 (`63_lcd_controller.md` R512). -/
theorem lcdEnable_ok {c : Nat} (h : s.lcd.Ok c) (hn : s.lcd.next = none) (hc : s.lcd.lcdc.getLsbD 7 = true) :
    (lcdEnable s).lcd.Ok (s.cyc + 1) := by
  obtain ⟨-, h2, -⟩ := params_ok_iff.mp hp
  obtain ⟨hy, -, -⟩ := (Lcd.frameOk_none hn).mp h.frame
  have he : (freshFrame s).lcd.Enabled := ⟨hc, Nat.le_refl 0, h.dma, h.image⟩
  have hf : Mode.m2.Fits (freshFrame s).lcd.ly.toNat (freshFrame s).lcd.lines.length := by
    rw [show (freshFrame s).lcd.ly = 0#8 from hy]
    exact ⟨Nat.zero_le _, rfl⟩
  simpa [lcdEnable] using (enterMode_running he hf).schedule h2

theorem lcdActM0_ok (h : s.lcd.Running .m0) : (lcdActM0 s).lcd.Ok (s.cyc + 1) := by
  obtain ⟨-, h2, -, -, hv, -⟩ := params_ok_iff.mp hp
  obtain ⟨hy, hl⟩ := h.fits
  have he := setLy_enabled h.toEnabled (s.lcd.ly + 1#8)
  have hs := toNat_nextLine (Nat.le_trans hy (by decide))
  simp only [lcdActM0, setLy_lcd]
  split
  case isTrue h144 =>
    have hy143 : s.lcd.ly.toNat + 1 = 144 := hs.symm.trans (congrArg BitVec.toNat h144)
    have hf : Mode.m1.Fits (s.lcd.ly + 1#8).toNat s.lcd.lines.length := by
      rw [hs, hl, hy143]
      exact ⟨by decide, by decide, rfl⟩
    simpa using (publish_running (m := .m1) he (by simpa using hf) (by simpa using hl.trans hy143)).schedule hv
  case isFalse h144 =>
    have hne : (s.lcd.ly + 1#8).toNat ≠ 144 := fun h => h144 (BitVec.eq_of_toNat_eq h)
    have hf : Mode.m2.Fits (s.lcd.ly + 1#8).toNat s.lcd.lines.length := ⟨by omega, hl.trans hs.symm⟩
    simpa using (enterMode_running (m := .m2) he (by simpa using hf)).schedule h2

theorem lcdActM1_ok (h : s.lcd.Running .m1) : (lcdActM1 s).lcd.Ok (s.cyc + 1) := by
  obtain ⟨-, h2, -, -, hv, -⟩ := params_ok_iff.mp hp
  obtain ⟨hlo, hhi, hl⟩ := h.fits
  unfold lcdActM1
  split
  case isTrue =>
    have hf : Mode.m2.Fits (freshFrame (setLy 0#8 s)).lcd.ly.toNat (freshFrame (setLy 0#8 s)).lcd.lines.length := by
      simp [freshFrame, Mode.Fits]
    simpa using (enterMode_running (freshFrame_enabled (setLy_enabled h.toEnabled _)) hf).schedule h2
  case isFalse h153 =>
    have hs := toNat_nextLine hhi
    have hne : s.lcd.ly.toNat ≠ 153 := fun h => h153 (BitVec.eq_of_toNat_eq h)
    have hr : (setLy (s.lcd.ly + 1#8) s).lcd.Running .m1 := by
      refine ⟨setLy_enabled h.toEnabled _, ?_, ?_⟩
      · obtain ⟨h0, h1⟩ := getLsbD_bitSet_two s.lcd.stat (s.lcd.ly + 1#8 == s.lcd.lyc)
        rw [setLy_lcd, ← h.mode]
        exact Lcd.mode_congr h0 h1
      · rw [setLy_lcd]
        exact ⟨by simp only [hs]; omega, by simp only [hs]; omega, hl⟩
    simpa using hr.schedule hv

/-- The controller's action in every mode (`63_lcd_controller.md` R513). -/
theorem lcdAct_ok {c n : Nat} (h : s.lcd.Ok c) (hn : s.lcd.next = some n) : (lcdAct s).lcd.Ok (s.cyc + 1) := by
  obtain ⟨-, -, h3, h0, -, -⟩ := params_ok_iff.mp hp
  have hr := h.running hn
  unfold lcdAct
  generalize s.lcd.mode = m at hr
  cases m with
  | m2 => simpa using (drawLine_running hr.toEnabled hr.fits.1 hr.fits.2).schedule h3
  | m3 => simpa using (enterMode_running (m := .m0) hr.toEnabled hr.fits).schedule h0
  | m0 => exact lcdActM0_ok hp hr
  | m1 => exact lcdActM1_ok hp hr

end

/-- Enabling the display leaves `vram` and `oam` alone. -/
theorem lcdEnable_stores (s : State) : (lcdEnable s).lcd.vram = s.lcd.vram ∧ (lcdEnable s).lcd.oam = s.lcd.oam := by
  simp [lcdEnable, lcdSchedule, freshFrame, Lcd.withMode]

/-- So does every action of the controller. -/
theorem lcdAct_stores (s : State) : (lcdAct s).lcd.vram = s.lcd.vram ∧ (lcdAct s).lcd.oam = s.lcd.oam := by
  unfold lcdAct lcdActM0 lcdActM1
  dsimp only
  repeat' split
  all_goals simp [lcdSchedule, drawLine, publish, freshFrame, Lcd.withMode]

theorem lcdNotice_inv {s : State} (h : s.Inv) : (lcdNotice s).Inv := by
  unfold lcdNotice
  split
  case isFalse => exact h
  case isTrue hc =>
    obtain ⟨hn, hc⟩ := hc
    have hi := inv_iff_invAt.mp h
    obtain ⟨hv, ho⟩ := lcdEnable_stores s
    have hl : (lcdEnable s).lcd.Ok s.cyc := (lcdEnable_ok h.params hi.lcd hn hc).mono (Nat.le_succ _)
    exact (hi.of_lcd hl (by rw [hv, ho]; exact memoryWf_lcd h.memory)).inv

/-- After its turn the LCD controller is scheduled for a later cycle, if it is at all. -/
theorem lcdStep_invAt {s : State} (h : s.Inv) : (lcdStep s).InvAt s.cyc (s.cyc + 1) := by
  have hi := inv_iff_invAt.mp (dmaStep_inv (lcdNotice_inv h))
  have hcyc : (dmaStep (lcdNotice s)).cyc = s.cyc := by simp
  unfold lcdStep
  generalize dmaStep (lcdNotice s) = u at hi hcyc
  rw [← hcyc]
  dsimp only
  split
  case isTrue hn =>
    obtain ⟨hv, ho⟩ := lcdAct_stores u
    exact hi.of_lcd (lcdAct_ok hi.params hi.lcd hn) (by rw [hv, ho]; exact memoryWf_lcd hi.memory)
  case isFalse hn =>
    have hl : u.lcd.Ok (u.cyc + 1) :=
      ⟨fun n h => Nat.lt_of_le_of_ne (hi.lcd.next n h) fun e => hn (e ▸ h), hi.lcd.dma, hi.lcd.frame, hi.lcd.image⟩
    exact { hi with lcd := hl }

theorem devicesStep_invAt {s : State} (h : s.Inv) : (devicesStep s).InvAt s.cyc (s.cyc + 1) :=
  timerStep_cyc s ▸ lcdStep_invAt (timerStep_inv h)

/-! ## The Cpu's turn -/

/-- Every operation but STOP and the unused bytes, which raise a fault, costs a cycle at least (`92_eei_decisions.md` D4). -/
theorem descriptor_pos {s : State} (hp : s.params.ok = true) {o : Op} (hs : o ≠ .stop) (hu : ∀ b, o ≠ .unused b) :
    1 ≤ (s.descriptor o).cycles := by
  obtain ⟨-, -, -, -, -, hc⟩ := params_ok_iff.mp hp
  unfold State.descriptor
  cases hl : s.params.cost.lookup o.row with
  | some d =>
    obtain ⟨l₁, l₂, he, -⟩ := List.lookup_eq_some_iff.mp hl
    exact hc (o.row, d) (he ▸ List.mem_append_right l₁ List.mem_cons_self)
  | none =>
    cases o
    case stop => exact absurd rfl hs
    case unused b => exact absurd rfl (hu b)
    all_goals exact Nat.le_of_ble_eq_true rfl

/-- A state with a source ready has one to service (`60_exceptions.md` R408). -/
theorem lowestReady_of_ready {s : State} (hr : s.ready ≠ 0#8) : ∃ i, lowestReady s.ready = some i := by
  refine Option.ne_none_iff_exists'.mp fun hn => hr (BitVec.eq_of_getLsbD_eq fun i hi => ?_)
  unfold lowestReady at hn
  iterate 5
    split at hn
    · cases hn
  rename_i h0 h1 h2 h3 h4
  simp only [Bool.not_eq_true] at h0 h1 h2 h3 h4
  match i, hi with
  | 0, _ | 1, _ | 2, _ | 3, _ | 4, _ => assumption
  | 5, _ | 6, _ | 7, _ => simp [State.ready]

section
variable {now : Nat} {s : State} (h : s.InvAt now (now + 1))
include h

/-- An act that leaves the Cpu scheduled for a later cycle is done. -/
theorem actDone_finish (target : Addr) {cost : Nat} (hc : 1 ≤ cost) : (s.finish target cost).ActDone now := by
  have hn : ∀ n, (s.finish target cost).cpu.next = some n → now < n := by
    rintro n ⟨⟩
    exact h.cyc ▸ Nat.lt_add_of_pos_right hc
  exact ⟨h.withCpu _ h.flagsLow fun n hk => Nat.le_of_lt (hn n hk), fun _ => hn⟩

theorem actDone_retire {o : Op} (hs : o ≠ .stop) (hu : ∀ b, o ≠ .unused b) : (s.retire o).ActDone now :=
  actDone_finish h _ (descriptor_pos h.params hs hu)

theorem actDone_jump {o : Op} {target : Addr} (hs : o ≠ .stop) (hu : ∀ b, o ≠ .unused b) :
    (s.jump o target).ActDone now := actDone_finish h _ (descriptor_pos h.params hs hu)

theorem actDone_jumpTaken {o : Op} {target : Addr} (hs : o ≠ .stop) (hu : ∀ b, o ≠ .unused b) :
    (s.jumpTaken o target).ActDone now := actDone_finish h _ (Nat.le_add_right_of_le (descriptor_pos h.params hs hu))

/-- A fault is latched and nothing else changes. -/
theorem actDone_raiseFault (k : Fault) : (raiseFault k s).ActDone now :=
  ⟨⟨h.cyc, h.params, h.flagsLow, h.counterLow, h.memory, h.cpuNext, h.lcd⟩, nofun⟩

/-- Every instruction keeps the invariant: it updates registers and writes the bus, and then ends, halts or raises a fault. -/
theorem actDone_run {o : Op} {t : State} (ht : Op.run o s = .next t) : t.ActDone now := by
  cases o with
  | stop => cases ht; exact actDone_raiseFault h _
  | unused => cases ht; exact actDone_raiseFault h _
  | halt => cases ht; exact ⟨h.withCpu _ h.flagsLow nofun, fun _ => nofun⟩
  | jpCc | jrCc | callCc | retCc =>
    simp only [Op.run, jumpAbsIf, jumpRelIf, callAbsIf, returnIf] at ht
    split at ht <;> cases ht
    · exact actDone_jumpTaken (by simp [h]) nofun nofun
    · exact actDone_retire h nofun nofun
  | jp | jpHl | jr | call | ret | reti | rst => cases ht; exact actDone_jump (by simp [h]) nofun nofun
  | _ => cases ht; exact actDone_retire (by simp [h]) nofun nofun

/-- So does the service of an interrupt. -/
theorem actDone_serviceInterrupt (hr : s.ready ≠ 0#8) : (serviceInterrupt s).ActDone now := by
  obtain ⟨i, hi⟩ := lowestReady_of_ready hr
  simp only [serviceInterrupt, hi, takeInterrupt]
  exact actDone_finish (invAt_push16 (invAt_acknowledge h i) _) _ (params_ok_iff.mp h.params).1

end

/-! ## The step -/

theorem step_inv {s t : State} (h : s.Inv) (ht : step s = .next t) : t.Inv := by
  have hw := invAt_wake (devicesStep_invAt h)
  obtain ⟨-, u, rfl, hc⟩ := step_cases ht rfl
  rcases hc with ⟨hn, rfl⟩ | ⟨-, -, hr, rfl⟩ | ⟨-, -, he⟩
  · have ha : ∀ n, (wake (devicesStep s)).cpu.next = some n → s.cyc < n := fun n hk =>
      Nat.lt_of_le_of_ne (hw.cpuNext n hk) fun e => hn (by rw [hk, hw.cyc, e])
    exact State.ActDone.advance_inv ⟨hw, fun _ => ha⟩
  · exact (actDone_serviceInterrupt hw hr).advance_inv
  · exact (actDone_run hw (exec_eq_run _ _ ▸ he)).advance_inv

theorem step_params {s t : State} (ht : step s = .next t) : t.params = s.params := by
  obtain ⟨-, u, rfl, hc⟩ := step_cases ht rfl
  rw [advance_params]
  rcases hc with ⟨-, rfl⟩ | ⟨-, -, -, rfl⟩ | ⟨-, -, he⟩
  · simp
  · unfold serviceInterrupt
    split <;> simp [takeInterrupt, acknowledge]
  · rw [exec_params he]; simp

theorem step_rom {s t : State} (ht : step s = .next t) : t.platform.rom = s.platform.rom := by
  obtain ⟨-, u, rfl, hc⟩ := step_cases ht rfl
  rw [advance_platform]
  rcases hc with ⟨-, rfl⟩ | ⟨-, -, -, rfl⟩ | ⟨-, -, he⟩
  · simp
  · simp
  · rw [exec_rom he]; simp

/-- Settles O40: the devices, the Cpu and the counter keep the invariant in turn. -/
theorem stepKeepsInvariant : Obligations.StepKeepsInvariant :=
  fun _ _ h ht => ⟨step_inv h ht, step_params ht, step_rom ht⟩

/-! ## Reset -/

theorem resetWith_inv {p : Params} {r : ResetValues} {cart : Cartridge} (hp : p.ok = true) (hr : r.Ok) (hc : cart.wf = true) :
    (State.resetWith p r cart).Inv where
  params := hp
  flagsLow := and_F0_and_0F _
  counterLow := hr.counterLow
  memory := by simp [State.memoryWf, State.resetWith, hr.vram, hr.oam, hr.workRam, hr.highRam, hr.ram, hr.rom, hc]
  cpuNext := fun n _ => Nat.zero_le n
  lcdNext := fun n _ => Nat.zero_le n
  dma := hr.dma
  frame := hr.frame
  image := hr.image

theorem defaultResetValues_ok : ResetValues.default.Ok where
  counterLow := rfl
  vram := rfl
  oam := rfl
  workRam := rfl
  highRam := rfl
  ram := rfl
  rom := rfl
  dma := Nat.le_refl 160
  frame := ⟨rfl, rfl, rfl⟩
  image := by simp [ResetValues.default, LcdImage.wf, LcdImage.placeholder]

/-- Settles O41: reset copies values that meet `ResetValues.Ok`, and masks F. -/
theorem resetInvariant : Obligations.ResetInvariant :=
  ⟨resetWith_inv (by decide) defaultResetValues_ok rfl, defaultResetValues_ok,
    fun _ _ _ hp hr hc => ⟨resetWith_inv hp hr hc, rfl⟩⟩

end Sys2Proof.Machine

/-! PROOFS. What the host's actions keep, what a bus access reaches on any platform and on the default one, and what a reset
leaves. -/

namespace Sys2Proof.Machine

/-! ## The host's actions -/

/-- t meets the invariant, with the parameters and the read-only regions of s: what a run keeps of its first state s. -/
structure State.Keeps (s t : State) : Prop where
  inv : t.Inv
  params : t.params = s.params
  rom : t.platform.rom = s.platform.rom

theorem State.Inv.keeps_self {s : State} (h : s.Inv) : s.Keeps s := ⟨h, rfl, rfl⟩

theorem State.Keeps.trans_step {s t u : State} (h : s.Keeps t) (hu : step t = .next u) : s.Keeps u :=
  ⟨step_inv h.inv hu, (step_params hu).trans h.params, (step_rom hu).trans h.rom⟩

/-- A key event changes the Joypad and IF alone (`65_joypad.md` R614, R615), of which the invariant asks nothing. -/
theorem State.Inv.keeps_keyEvent {s : State} (h : s.Inv) (k : Key) (held : Bool) : s.Keeps (keyEvent k held s) where
  inv := by
    have hs := inv_iff_invAt.mp h
    have hl : (keyEvent k held s).lcd.Ok s.cyc := (keyEvent_lcd s k held).symm ▸ hs.lcd
    exact (hs.of_lcd hl (by simpa using memoryWf_lcd h.memory)).inv
  params := keyEvent_params s k held
  rom := by rw [keyEvent_platform]

/-- The cases of a run of at least one step: a latched fault ends it at once, or a step begins it. -/
theorem runFor_succ_cases {k : Nat} {s t : State} (h : runFor (k + 1) s = .next t) :
    (s.fault ≠ none ∧ t = s) ∨ ∃ u, step s = .next u ∧ runFor k u = .next t := by
  cases hf : s.fault with
  | some f =>
    simp only [runFor, hf, Host.Outcome.next.injEq] at h
    exact .inl ⟨nofun, h.symm⟩
  | none =>
    have hs : step s = driverStep s := by simp only [step, hf]
    simp only [runFor, hf, ← hs] at h
    cases hu : step s with
    | next u => rw [hu] at h; exact .inr ⟨u, rfl, h⟩
    | fault f => rw [hu] at h; cases h
    | refused r => rw [hu] at h; cases h

/-- What every step keeps true, a run keeps true. -/
theorem runFor_keeps {P : State → Prop} (hP : ∀ {s t : State}, P s → step s = .next t → P t) {k : Nat} {s t : State} (hs : P s)
    (h : runFor k s = .next t) : P t := by
  induction k generalizing s with
  | zero => cases h; exact hs
  | succ k ih =>
    obtain ⟨-, rfl⟩ | ⟨u, hu, h⟩ := runFor_succ_cases h
    · exact hs
    · exact ih (hP hs hu) h

/-- The cases of a host action that answers a state: nothing happens, a run, or a key event (`61_scheduler.md` R463). -/
theorem hostAct_cases {a : HostAction} {s t : State} (h : hostAct a s = .next t) :
    t = s ∨ (∃ k, runFor k s = .next t) ∨ ∃ k held, t = keyEvent k held s := by
  have event : ∀ k held, (if s.fault = none then keyEvent k held s else s) = t → t = s ∨ t = keyEvent k held s := by
    rintro k held rfl
    split
    · exact .inr rfl
    · exact .inl rfl
  cases a with
  | runUntil n =>
    simp only [hostAct, runUntil] at h
    split at h
    · cases h
    · exact .inr (.inl ⟨_, h⟩)
  | pullImage => cases h; exact .inl rfl
  | keyPressed k => exact (event k true (Host.Outcome.next.inj h)).imp_right fun e => .inr ⟨k, true, e⟩
  | keyReleased k => exact (event k false (Host.Outcome.next.inj h)).imp_right fun e => .inr ⟨k, false, e⟩

/-- Settles O42: a run keeps what each of its steps keeps, and a key event touches nothing that the invariant speaks of. -/
theorem hostKeepsInvariant : Obligations.HostKeepsInvariant := by
  intro s t a hs h
  have hk : s.Keeps t := by
    obtain rfl | ⟨k, h⟩ | ⟨k, held, rfl⟩ := hostAct_cases h
    · exact hs.keeps_self
    · exact runFor_keeps State.Keeps.trans_step hs.keeps_self h
    · exact hs.keeps_keyEvent k held
  exact ⟨hk.inv, hk.params, hk.rom⟩

/-! ## The bus -/

/-- The first participant that answers a read wins it (`20_memory.md` R82). -/
theorem busRead_of_first {s : State} {a : Addr} {x : Byte} {before after : List Participant} {p : Participant}
    (hp : s.params.platform = before ++ p :: after) (hb : ∀ q ∈ before, participantRead q s a = none)
    (hx : participantRead p s a = some x) : busRead s a = x := by
  have hn : before.findSome? (fun q => participantRead q s a) = none := List.findSome?_eq_none_iff.mpr hb
  simp only [busRead, hp, List.findSome?_append, hn, Option.none_or, List.findSome?_cons, hx, Option.getD_some]

/-- A read that no participant answers is 0xFF (R82). -/
theorem busRead_of_none {s : State} {a : Addr} (h : ∀ p ∈ s.params.platform, participantRead p s a = none) :
    busRead s a = 0xFF#8 := by
  rw [busRead, List.findSome?_eq_none_iff.mpr h, Option.getD_none]

theorem inRange_iff {lo hi a : Addr} : inRange lo hi a = true ↔ lo.toNat ≤ a.toNat ∧ a.toNat ≤ hi.toNat := by
  simp only [inRange, Bool.and_eq_true, decide_eq_true_eq]

theorem participantRead_rom_inside {lo hi b : Addr} (h : lo.toNat ≤ b.toNat ∧ b.toNat ≤ hi.toNat) (k : Byte) (s : State) :
    participantRead (.rom k lo hi) s b = some (s.platform.rom.load (65536 * k.toNat + (b.toNat - lo.toNat))) :=
  if_pos (inRange_iff.mpr h)

theorem participantRead_rom_outside {lo hi b : Addr} (h : ¬(lo.toNat ≤ b.toNat ∧ b.toNat ≤ hi.toNat)) (k : Byte) (s : State) :
    participantRead (.rom k lo hi) s b = none :=
  if_neg fun hin => h (inRange_iff.mp hin)

/-- No write changes what a read-only region answers (`10_state.md` R40). -/
theorem participantRead_rom_busWrite (k : Byte) (lo hi : Addr) (s : State) (a b : Addr) (v : Byte) :
    participantRead (.rom k lo hi) (busWrite s a v) b = participantRead (.rom k lo hi) s b := by
  simp only [participantRead, busWrite_rom]

section
variable {s : State} (hp : DefaultPlatform s)
include hp

/-- An address of the echo reads the byte of work RAM 0x2000 below it (R91). -/
theorem busRead_echo_eq_workRam {b : Addr} (h : inEcho b = true) : busRead s b = busRead s (b - 0x2000#16) := by
  have hr := h
  simp only [inEcho, Bool.and_eq_true, decide_eq_true_eq] at hr
  have hn : (b - 0x2000#16).toNat = b.toNat - 0x2000 := by bv_omega
  have hw : inWorkRam (b - 0x2000#16) = true := by
    simp only [inWorkRam, Bool.and_eq_true, decide_eq_true_eq]
    omega
  have hk : b.toNat - 0xE000 = (b - 0x2000#16).toNat - 0xC000 := by omega
  rw [busRead_echo hp h, busRead_workRam hp hw, hk]

/-- The addresses that no participant of the default platform claims (R90, R91). -/
theorem claimants_unmapped {a : Addr}
    (h : (0xFEA0 ≤ a.toNat ∧ a.toNat ≤ 0xFEFF) ∨ (0xFF01 ≤ a.toNat ∧ a.toNat ≤ 0xFF03) ∨
      (0xFF08 ≤ a.toNat ∧ a.toNat ≤ 0xFF0E) ∨ (0xFF10 ≤ a.toNat ∧ a.toNat ≤ 0xFF3F) ∨
      (0xFF4C ≤ a.toNat ∧ a.toNat ≤ 0xFF7F)) : s.claimants a = [] := by
  rw [claimants_default hp, List.filter_eq_nil_iff]
  intro p hm
  cases p with
  | workRam | echo | highRam | cartridge =>
    simp only [participantClaims, inWorkRam, inEcho, inHighRam, cartridgeClaims, Bool.or_eq_true, Bool.and_eq_true,
      decide_eq_true_eq]
    omega
  | cpu | joypad =>
    simp only [participantClaims, Bool.or_eq_true, beq_iff_eq]
    bv_omega
  | timer => simp [participantClaims, timerRegAt_none (a := a) (by omega)]
  | lcd =>
    simp only [participantClaims, inVram, inOam, lcdRegAt_none (a := a) (by omega), Option.isSome_none, Bool.or_false,
      Bool.or_eq_true, Bool.and_eq_true, decide_eq_true_eq]
    omega
  | ram | rom | external => simp [Config.platform] at hm

end

/-- Settles O54: the order of the participants decides a read, the claimants take a write, and on the default platform the two laws
of the bus and its address map give the rest. -/
theorem busReadsAfterWrites : Obligations.BusReadsAfterWrites := by
  intro s a b v
  refine ⟨fun before p after x => busRead_of_first, busRead_of_none, busWrite_claimants s a v, fun k lo hi => ?_, fun hp => ?_⟩
  · exact ⟨participantRead_rom_busWrite k lo hi s a b v, fun hlo hhi => participantRead_rom_inside ⟨hlo, hhi⟩ k s,
      fun h => participantRead_rom_outside h k s⟩
  · refine ⟨busRead_busWrite_self hp a v, busRead_busWrite_frame hp a b v, busRead_echo_eq_workRam hp, fun h => ?_⟩
    have hn := claimants_unmapped hp h
    exact ⟨busRead_nobody hn, busWrite_nobody hn v⟩

/-! ## The values of a reset -/

section
variable (p : Params) (cart : Cartridge)

theorem resetWith_default_reg (r : Reg) : (State.resetWith p ResetValues.default cart).reg r = 0#8 := by
  cases r <;> rfl

theorem resetWith_default_flags :
    (State.resetWith p ResetValues.default cart).flags = { z := false, n := false, h := false, c := false } := by
  have hf : (State.resetWith p ResetValues.default cart).cpu.regs.f = 0#8 := resetWith_default_reg p cart .f
  simp only [State.flags, hf, BitVec.getLsbD_zero]

theorem resetWith_default_readReg (r : LcdReg) : (State.resetWith p ResetValues.default cart).lcd.readReg r = 0#8 := by
  cases r <;> rfl

/-- No key is held and no line exposed, so P1 reads 0xFF (`65_joypad.md` R611, R613). -/
theorem resetWith_default_p1 : (State.resetWith p ResetValues.default cart).joypad.read 0xFF00#16 = some 0xFF#8 := by
  have hj : ResetValues.default.joypad.read 0xFF00#16 = some 0xFF#8 := by decide
  exact hj

end

/-- A machine with no cost row of its own has the default COST table (`00_scope.md` R7). -/
theorem descriptor_default {s : State} (h : s.params.cost = []) (o : Op) : s.descriptor o = o.descriptor := by
  simp only [State.descriptor, h, List.lookup_nil, Option.getD_none]

/-- Settles O43: reset copies the default reset values; every part is read off them. -/
theorem resetValues : Obligations.ResetValues := by
  refine ⟨?_, ⟨.image [], rfl⟩, rfl, rfl, rfl, rfl, rfl, rfl, descriptor_default rfl⟩
  rintro p cart s rfl
  exact ⟨resetWith_default_reg p cart, resetWith_default_flags p cart, rfl, rfl, rfl, rfl, rfl, rfl,
    rfl, resetWith_default_readReg p cart, Memory.load_nil, Memory.load_nil, rfl, rfl, rfl, rfl, rfl,
    rfl, resetWith_default_p1 p cart, rfl, rfl, Memory.load_nil, Memory.load_nil, Memory.load_nil, rfl, rfl⟩

end Sys2Proof.Machine

/-! PROOFS. The encoding: the fields of a row give its bytes, decoding and encoding undo each other, and what follows for the
length, for the unused bytes and for the step that fetches an instruction. -/

namespace Sys2Proof

/-! ## The fields of an opcode byte -/

theorem R8.code_of_ofCode_some {z : Fin 8} {r : R8} (h : R8.ofCode z.val = some r) : r.code = z.val := by
  revert z r
  decide

theorem R8.eq_six_of_ofCode_none {z : Fin 8} (h : R8.ofCode z.val = none) : z.val = 6 := by
  revert z
  decide

theorem ShiftOp.code_ofCode (y : Fin 8) : (ShiftOp.ofCode y).code = y.val := by
  revert y
  decide

/-- A byte is put together again from its fields x, y, z (`30_encoding.md` R131). -/
theorem byteXYZ_fields (b : Byte) : byteXYZ (field2 b 6).val (field3 b 3).val (field3 b 0).val = b := by
  have hb := b.isLt
  apply BitVec.eq_of_toNat_eq
  simp only [byteXYZ, field2, field3, BitVec.toNat_ofNat, BitVec.val_toFin, BitVec.extractLsb'_toNat, Nat.shiftRight_eq_div_pow]
  omega

/-- The operation that a second byte's fields select is encoded by 0xCB and that byte (R137). -/
theorem encode_prefixedOp (op2 : Byte) : (prefixedOp op2).encode = [0xCB#8, op2] := by
  have hb : bytesCb (field2 op2 6).val (field3 op2 3).val (field3 op2 0).val = [0xCB#8, op2] :=
    congrArg (fun b => [0xCB#8, b]) (byteXYZ_fields op2)
  rw [← hb]
  unfold prefixedOp
  generalize field2 op2 6 = x, field3 op2 3 = y, field3 op2 0 = z
  cases hr : R8.ofCode z.val with
  | some r =>
    rw [← R8.code_of_ofCode_some hr]
    match x with
    | 0 => exact congrArg (bytesCb 0 · r.code) (ShiftOp.code_ofCode y)
    | 1 | 2 | 3 => rfl
  | none =>
    rw [R8.eq_six_of_ofCode_none hr]
    match x with
    | 0 => exact congrArg (bytesCb 0 · 6) (ShiftOp.code_ofCode y)
    | 1 | 2 | 3 => rfl

/-- Settles O1: both accounts of a row are the same bytes, row by row; only the row of the byte 0xCB, whose operation depends on
its operand, takes an argument. -/
theorem encodingFollowsFields : Obligations.EncodingFollowsFields := by
  intro i
  cases i
  case prefix_CB op2 => exact (encode_prefixedOp op2).symm
  all_goals rfl

theorem encode_eq_of_op {i : Instr} {o : Op} (h : i.op = o) : encode i = o.encode := h ▸ encodingFollowsFields i

/-! ## The length of an instruction -/

theorem Op.encode_length (o : Op) : o.encode.length = o.descriptor.length := by cases o <;> rfl

theorem Instr.encode_length (i : Instr) : (encode i).length = i.length :=
  (congrArg List.length (encodingFollowsFields i)).trans i.op.encode_length

theorem Op.length_bounds (o : Op) : 1 ≤ o.descriptor.length ∧ o.descriptor.length ≤ 3 := by
  cases o <;> simp [Op.descriptor]

/-! ## Decoding what was encoded -/

/-- The instruction at the head of a sequence of bytes, x and y standing in for the bytes the sequence lacks. -/
def headInstr (x y : Byte) : List Byte → Instr
  | [] => decodeBytes x y y
  | [b0] => decodeBytes b0 x y
  | [b0, b1] => decodeBytes b0 b1 x
  | b0 :: b1 :: b2 :: _ => decodeBytes b0 b1 b2

theorem headInstr_append {bytes : List Byte} (h : bytes ≠ []) (rest : List Byte) :
    headInstr 0#8 0#8 (bytes ++ rest) = headInstr (rest.getD 0 0#8) (rest.getD 1 0#8) bytes := by
  match bytes, rest with
  | [], _ => exact absurd rfl h
  | [_], [] | [_], [_] | [_], _ :: _ :: _ | [_, _], [] | [_, _], _ :: _ | _ :: _ :: _ :: _, _ => rfl

theorem headInstr_eq_decodeBytes (bytes : List Byte) :
    headInstr 0#8 0#8 bytes = decodeBytes (bytes.getD 0 0#8) (bytes.getD 1 0#8) (bytes.getD 2 0#8) := by
  match bytes with
  | [] | [_] | [_, _] | _ :: _ :: _ :: _ => rfl

/-- A sequence of bytes decodes exactly when it is as long as the instruction at its head asks for. -/
theorem decode_eq_ok_iff {bytes rest : List Byte} {i : Instr} :
    decode bytes = .ok (i, rest) ↔ headInstr 0#8 0#8 bytes = i ∧ i.length ≤ bytes.length ∧ bytes.drop i.length = rest := by
  cases bytes with
  | nil =>
    have hi : ¬i.length ≤ 0 := Nat.not_le.mpr i.op.length_bounds.1
    exact ⟨nofun, fun ⟨_, hl, _⟩ => absurd hl hi⟩
  | cons b0 tl =>
    rw [headInstr_eq_decodeBytes]
    simp only [decode, List.getD_cons_zero, List.getD_cons_succ]
    split
    case isTrue h =>
      rw [Except.ok.injEq, Prod.mk.injEq]
      exact ⟨fun ⟨hi, hr⟩ => hi ▸ ⟨rfl, h, hr⟩, fun ⟨hi, _, hr⟩ => ⟨hi, hi ▸ hr⟩⟩
    case isFalse h => exact ⟨nofun, fun ⟨hi, hl, _⟩ => absurd (hi ▸ hl) h⟩

/-- Every row but that of the byte 0xCB is the one its own bytes decode to, whatever follows them: a 16-bit immediate is put
together from its halves, all else is read off the tables. -/
theorem headInstr_encode {i : Instr} (h : WellFormed i = true) (x y : Byte) : headInstr x y (encode i) = i := by
  cases i
  case prefix_CB => cases h
  case ld_BC_N16 n | ld_DE_N16 n | ld_HL_N16 n | ld_SP_N16 n | ld_AtN16_SP n | ld_AtN16_A n | ld_A_AtN16 n | jp_N16 n | jp_NZ_N16 n
      | jp_Z_N16 n | jp_NC_N16 n | jp_C_N16 n | call_N16 n | call_NZ_N16 n | call_Z_N16 n | call_NC_N16 n | call_C_N16 n =>
    exact (congrArg _ (Machine.make16_high_low n).symm).symm
  all_goals rfl

/-- Settles O2: the bytes of an instruction are as many as it asks for, and it is the instruction at their head. -/
theorem decodeOfEncode : Obligations.DecodeOfEncode := by
  intro i rest hw
  have hlen := i.encode_length
  have hne : encode i ≠ [] := List.ne_nil_of_length_pos (hlen ▸ i.op.length_bounds.1)
  refine decode_eq_ok_iff.mpr ⟨?_, ?_, ?_⟩
  · rw [headInstr_append hne, headInstr_encode hw]
  · rw [List.length_append, hlen]
    exact Nat.le_add_right _ _
  · rw [← hlen, List.drop_left]

/-- Settles O5: each of the nine words is the encoding of its instruction; the two short sequences are refused. -/
theorem decodedWords : Obligations.DecodedWords :=
  ⟨decodeOfEncode (.ld_SP_N16 0xFFFF#16) [0x3E#8] rfl, decodeOfEncode (.ld_A_N8 0x0B#8) [] rfl,
    decodeOfEncode (.call_N16 0x000A#16) [] rfl, decodeOfEncode .halt [] rfl, decodeOfEncode .ld_B_C [] rfl,
    decodeOfEncode (.jr_NZ_E8 0xFC#8) [] rfl, decodeOfEncode .bit_7_H [] rfl, decodeOfEncode .set_1_E [] rfl,
    decodeOfEncode .unused_D3 [] rfl, rfl, rfl⟩

/-! ## Encoding what was decoded -/

theorem lowByte_make16 (hi lo : Byte) : lowByte (make16 hi lo) = lo := BitVec.setWidth_append_eq_right

theorem highByte_make16 (hi lo : Byte) : highByte (make16 hi lo) = hi :=
  BitVec.setWidth_ushiftRight_eq_extractLsb.trans BitVec.extractLsb'_append_eq_left

/-- The bytes after the first of a direct row of the given length that was decoded from b1 and b2: the form in which `encode`
gives them, a 16-bit immediate taken apart again. -/
def operandBytes (b1 b2 : Byte) : Nat → List Byte
  | 3 => [lowByte (make16 b2 b1), highByte (make16 b2 b1)]
  | 2 => [b1]
  | _ => []

theorem cons_operandBytes (b0 b1 b2 : Byte) (o : Op) :
    b0 :: operandBytes b1 b2 o.descriptor.length = [b0, b1, b2].take o.descriptor.length := by
  obtain ⟨h1, h3⟩ := o.length_bounds
  generalize o.descriptor.length = n at h1 h3 ⊢
  obtain rfl | rfl | rfl : n = 1 ∨ n = 2 ∨ n = 3 := by omega
  · rfl
  · rfl
  · simp only [operandBytes, lowByte_make16, highByte_make16, List.take_succ_cons, List.take_zero]

/-- The rows of the second table (R143). -/
theorem decodePrefixed_rows (b1 : Byte) : WellFormed (decodePrefixed b1) = true ∧ encode (decodePrefixed b1) = [0xCB#8, b1] := by
  revert b1
  decide

/-- The rows of the direct table (R140 to R142), by the fields of the first byte: 0xCB leads to the second table, and STOP is
encoded with a second byte of its own (R145); any other row is encoded as the bytes it was decoded from. -/
theorem decodeBytes_table (b0 b1 b2 : Byte) :
    WellFormed (decodeBytes b0 b1 b2) = (if b0 = 0xCB#8 then WellFormed (decodePrefixed b1) else true) ∧
      encode (decodeBytes b0 b1 b2) =
        (if b0 = 0xCB#8 then encode (decodePrefixed b1)
        else if b0 = 0x10#8 then encode .stop
        else b0 :: operandBytes b1 b2 (decodeBytes b0 0#8 0#8).length) := by
  rw [← byteXYZ_fields b0]
  generalize field2 b0 6 = x, field3 b0 3 = y, field3 b0 0 = z
  match x with
  | 0 | 1 | 2 | 3 =>
    match y with
    | 0 | 1 | 2 | 3 | 4 | 5 | 6 | 7 =>
      match z with
      | 0 | 1 | 2 | 3 | 4 | 5 | 6 | 7 => exact ⟨rfl, rfl⟩

/-- What was decoded is well-formed, and its bytes, but for STOP's, are those it was decoded from. -/
theorem decodeBytes_rows (b0 b1 b2 : Byte) :
    WellFormed (decodeBytes b0 b1 b2) = true ∧
      (b0 ≠ 0x10#8 → encode (decodeBytes b0 b1 b2) = b0 :: operandBytes b1 b2 (decodeBytes b0 0#8 0#8).length) := by
  by_cases hcb : b0 = 0xCB#8
  · subst hcb
    exact (decodePrefixed_rows b1).imp_right fun h _ => h
  · obtain ⟨hw, he⟩ := decodeBytes_table b0 b1 b2
    rw [if_neg hcb] at hw he
    exact ⟨hw, fun hs => he.trans (if_neg hs)⟩

theorem wellFormed_decodeBytes (b0 b1 b2 : Byte) : WellFormed (decodeBytes b0 b1 b2) = true := (decodeBytes_rows b0 b1 b2).1

theorem encode_decodeBytes {b0 : Byte} (h : b0 ≠ 0x10#8) (b1 b2 : Byte) :
    encode (decodeBytes b0 b1 b2) = [b0, b1, b2].take (decodeBytes b0 0#8 0#8).length :=
  ((decodeBytes_rows b0 b1 b2).2 h).trans (cons_operandBytes b0 b1 b2 _)

/-- The length depends on the first byte alone (R139). -/
theorem length_decodeBytes (b0 b1 b2 : Byte) : (decodeBytes b0 b1 b2).length = (decodeBytes b0 0#8 0#8).length := by
  by_cases h : b0 = 0x10#8
  · subst h
    rfl
  · rw [← Instr.encode_length, encode_decodeBytes h, List.length_take]
    exact Nat.min_eq_left (Op.length_bounds _).2

theorem head_eq_of_encode_decodeBytes {b0 b1 b2 b : Byte} {bs : List Byte} (h : b0 ≠ 0x10#8)
    (he : encode (decodeBytes b0 b1 b2) = b :: bs) : b = b0 :=
  (List.cons.inj (he.symm.trans ((decodeBytes_rows b0 b1 b2).2 h))).1

theorem decodeBytes_eq_stop_iff {b0 b1 b2 : Byte} : decodeBytes b0 b1 b2 = .stop ↔ b0 = 0x10#8 := by
  constructor
  · intro h
    exact Decidable.byContradiction fun hb => hb (head_eq_of_encode_decodeBytes hb (congrArg encode h)).symm
  · rintro rfl
    rfl

/-- Of a sequence's first three bytes, 0x00 where it has none, those it does have are its own. -/
theorem take_getD {bytes : List Byte} {n : Nat} (h : n ≤ bytes.length) (h3 : n ≤ 3) :
    [bytes.getD 0 0#8, bytes.getD 1 0#8, bytes.getD 2 0#8].take n = bytes.take n := by
  have hb : [bytes.getD 0 0#8, bytes.getD 1 0#8, bytes.getD 2 0#8] = (bytes ++ [0#8, 0#8, 0#8]).take 3 := by
    match bytes with
    | [] | [_] | [_, _] | _ :: _ :: _ :: _ => rfl
  rw [hb, List.take_take, Nat.min_eq_left h3, List.take_append_of_le_length h]

/-- Settles O3: the decoded instruction's bytes are the first ones of the sequence, as many as it is long; STOP is told by the byte
0x10. -/
theorem encodeOfDecode : Obligations.EncodeOfDecode := by
  intro bytes i rest h
  obtain ⟨hi, hl, rfl⟩ := decode_eq_ok_iff.mp h
  rw [headInstr_eq_decodeBytes] at hi
  subst hi
  refine ⟨wellFormed_decodeBytes _ _ _, fun hs => ?_, fun hs => ?_⟩
  · rw [encode_decodeBytes (mt decodeBytes_eq_stop_iff.mpr hs), ← length_decodeBytes, take_getD hl (Op.length_bounds _).2,
      List.take_append_drop]
  · rw [hs] at hl ⊢
    match bytes, hl, decodeBytes_eq_stop_iff.mp hs with
    | _ :: b1 :: _, _, rfl => exact ⟨b1, rfl⟩

/-! ## The unused bytes -/

/-- The eleven bytes that name no instruction (R144). -/
abbrev unusedBytes : List Byte :=
  [0xD3#8, 0xDB#8, 0xDD#8, 0xE3#8, 0xE4#8, 0xEB#8, 0xEC#8, 0xED#8, 0xF4#8, 0xFC#8, 0xFD#8]

theorem mem_unusedBytes_of_op {b : Byte} (h : (decodeBytes b 0#8 0#8).op = .unused b) : b ∈ unusedBytes := by
  revert b
  decide

/-- An unused row is one byte long, so it is decoded from its byte alone. -/
theorem decodeBytes_op_eq_unused_iff {b0 b1 b2 b : Byte} :
    (decodeBytes b0 b1 b2).op = .unused b ↔ b = b0 ∧ b0 ∈ unusedBytes := by
  constructor
  · intro h
    have he : encode (decodeBytes b0 b1 b2) = [b] := encode_eq_of_op h
    have h0 : b0 ≠ 0x10#8 := by
      rintro rfl
      cases h
    have hd : headInstr 0#8 0#8 [b] = decodeBytes b0 b1 b2 := he ▸ headInstr_encode (wellFormed_decodeBytes b0 b1 b2) 0#8 0#8
    obtain rfl := head_eq_of_encode_decodeBytes h0 he
    exact ⟨rfl, mem_unusedBytes_of_op ((congrArg Instr.op hd).trans h)⟩
  · rintro ⟨rfl, hb⟩
    simp only [List.mem_cons, List.not_mem_nil, or_false] at hb
    obtain rfl | rfl | rfl | rfl | rfl | rfl | rfl | rfl | rfl | rfl | rfl := hb <;> rfl

/-- Settles O4: the first byte fixes the length, which the row's descriptor bounds. -/
theorem lengthFromFirstByte : Obligations.LengthFromFirstByte := by
  intro b0 b1 b2 c1 c2 rest
  obtain ⟨h1, h3⟩ := (decodeBytes b0 b1 b2).op.length_bounds
  refine ⟨?_, h1, h3, ?_, ?_, fun _ => decodeBytes_op_eq_unused_iff⟩
  · rw [length_decodeBytes b0 b1 b2, length_decodeBytes b0 c1 c2]
  · rintro rfl
    exact length_decodeBytes _ b1 b2
  · exact decode_eq_ok_iff.mpr ⟨rfl, Nat.le_trans h3 (Nat.le_add_left 3 rest.length), rfl⟩

end Sys2Proof

namespace Sys2Proof.Machine

/-! ## Running what was decoded -/

theorem exec_eq_of_op {i : Instr} {o : Op} (h : i.op = o) (s : State) : exec i s = Op.run o s := h ▸ exec_eq_run i s

/-- Settles O32: an instruction has the bytes and the meaning of its operation, and the meaning of STOP and of an unused byte is
the fault latch. -/
theorem stopAndUnused : Obligations.StopAndUnused := by
  intro i s b b1 b2
  exact ⟨fun h => ⟨encode_eq_of_op h, exec_eq_of_op h s⟩, rfl, fun h => ⟨encode_eq_of_op h, exec_eq_of_op h s⟩,
    decodeBytes_op_eq_unused_iff.trans (and_iff_right rfl)⟩

theorem fetch_eq_of_decode {s : State} {i : Instr} {rest : List Byte}
    (h : decode [busRead s s.cpu.pc, busRead s (s.cpu.pc + 1#16), busRead s (s.cpu.pc + 2#16)] = .ok (i, rest)) : fetch s = i :=
  (decode_eq_ok_iff.mp h).1

/-- Settles O33: `BeforeCpu` leads to the Cpu's turn, no interrupt is serviced there, and the fetched instruction is the decoded
one. -/
theorem stepRunsDecoded : Obligations.StepRunsDecoded := by
  intro s w i rest hf hw hn hi hd
  have hc : w.cyc = s.cyc := by rw [beforeCpu_iff.mp hw, wake_cyc, devicesStep_cyc]
  have hr : ¬(w.cpu.ime = true ∧ w.ready ≠ 0#8) := by
    rintro ⟨him, hready⟩
    obtain hi | hi := hi
    · exact Bool.false_ne_true (hi.symm.trans him)
    · exact hready hi
  have hs : cpuStep (devicesStep s) = exec i w := by
    rw [cpuStep, ← beforeCpu_iff.mp hw, hc]
    simp only [if_pos hn, cpuAct, if_neg hr, fetch_eq_of_decode hd]
  obtain ⟨t, ht⟩ := exec_isNext i w
  simp only [step, hf, driverStep, hs, ht, advance, exec_cyc ht, hc]

end Sys2Proof.Machine

/-! PROOFS. The bit operations and the ALU: decimal adjust in the integers, and where each bit of a rotated word comes from. -/

namespace Sys2Proof.Machine

theorem hasRow_of_op {i : Instr} {o : Op} {bytes : List Byte} {length cycles extra : Nat} (h : i.op = o)
    (hb : o.encode = bytes) (hd : o.descriptor = ⟨length, cycles, extra⟩) : HasRow i bytes length cycles extra :=
  ⟨(encode_eq_of_op h).trans hb, h ▸ hd⟩

/-- The register and the flags that a computing instruction gives, and its frame: `compute_shape` of the instruction itself. -/
theorem exec_compute {i : Instr} {o : Op} {s : State} {p : FlagTuple} {f : Flags} {r : R8} {v : Byte} (h : i.op = o)
    (hr : Op.run o s = .next (((s.setFlags p f).setR8 r v).retire o)) :
    ∃ t, exec i s = .next t ∧ t.r8 r = v ∧ t.flags = p.pick f s.flags ∧ FlagsClean t ∧ RegsBut [r.reg, .f] s t ∧
      KeepsSpIme s t ∧ Quiet s t ∧ FallsThrough s t i.op :=
  exec_next h hr (h ▸ compute_shape s p f r v o)

end Sys2Proof.Machine

namespace Sys2Proof

/-! ## Decimal adjust -/

theorem ofInt_toNat_add {w : Nat} (x : BitVec w) (k : Nat) : BitVec.ofInt w (x.toNat + k) = x + BitVec.ofNat w k := by
  rw [BitVec.ofInt_add, BitVec.ofInt_natCast, BitVec.ofInt_natCast, BitVec.ofNat_toNat, BitVec.setWidth_eq]

theorem ofInt_toNat_sub {w : Nat} (x : BitVec w) (k : Nat) : BitVec.ofInt w (x.toNat - k) = x - BitVec.ofNat w k := by
  rw [BitVec.eq_sub_iff_add_eq, ← BitVec.ofInt_natCast, ← BitVec.ofInt_add, Int.sub_add_cancel, BitVec.ofInt_natCast,
    BitVec.ofNat_toNat, BitVec.setWidth_eq]

/-- The value of `bcdAdjust` (`40_bitops_alu.md` R196), its correction a number. -/
theorem bcdAdjust_v {v : Byte} {n h c fixL fixH : Bool} {fix : Nat} (hL : fixL = (h || (!n && decide (v.toNat % 16 > 9))))
    (hH : fixH = (c || (!n && decide (v.toNat > 0x99)))) (hf : fix = (if fixH then 0x60 else 0) + (if fixL then 0x06 else 0)) :
    (Alu.bcdAdjust v n h c).v = BitVec.ofInt 8 (if n then v.toNat - fix else v.toNat + fix) := by
  have hfix : (if fixH then 0x60#8 else 0#8) + (if fixL then 0x06#8 else 0#8) = BitVec.ofNat 8 fix := by
    rw [hf]
    cases fixH <;> cases fixL <;> rfl
  rw [hL, hH] at hfix
  cases n with
  | true => exact (congrArg (v - ·) hfix).trans (ofInt_toNat_sub v fix).symm
  | false => exact (congrArg (v + ·) hfix).trans (ofInt_toNat_add v fix).symm

/-- The flags of `bcdAdjust` (R196): Z of its value, C of its correction by 0x60. -/
theorem bcdAdjust_f {v : Byte} {n h c fixH : Bool} (hH : fixH = (c || (!n && decide (v.toNat > 0x99)))) :
    (Alu.bcdAdjust v n h c).f = { z := decide ((Alu.bcdAdjust v n h c).v = 0#8), n := n, h := false, c := fixH } := by
  rw [hH]
  rfl

section
open Machine

/-- Settles O18: DAA puts the value of `Alu.bcdAdjust` in A and its flags, but for N, in F; that value is the correction in the
integers. -/
theorem decimalAdjust : Obligations.DecimalAdjust := by
  intro i s fixL fixH fix hi hL hH hf
  obtain ⟨t, ht, ha, hflags, hframe⟩ := exec_compute hi (rfl : Op.run .daa s = _)
  change t.reg .a = (Alu.bcdAdjust (s.reg .a) s.flags.n s.flags.h s.flags.c).v at ha
  refine ⟨hasRow_of_op hi rfl rfl, t, ht, ha.trans (bcdAdjust_v hL hH hf), hflags.trans ?_, hframe⟩
  rw [ha]
  exact congrArg (FlagTuple.pick _ · _) (bcdAdjust_f hH)

end

/-! ## Rotation within a size -/

section
variable {size : Nat} {bits r : Word32} {d : Int}

/-- A word below 2^size is its bits below the size. -/
theorem eq_of_getLsbD_below (hr : r.toNat < 2 ^ size) (hb : bits.toNat < 2 ^ size)
    (h : ∀ i < size, r.getLsbD i = bits.getLsbD i) : r = bits := by
  refine BitVec.eq_of_getLsbD_eq fun i _ => ?_
  by_cases hi : i < size
  · exact h i hi
  · have hle : 2 ^ size ≤ 2 ^ i := Nat.pow_le_pow_right Nat.two_pos (Nat.le_of_not_lt hi)
    rw [← BitVec.testBit_toNat, ← BitVec.testBit_toNat, Nat.testBit_lt_two_pow (Nat.lt_of_lt_of_le hr hle),
      Nat.testBit_lt_two_pow (Nat.lt_of_lt_of_le hb hle)]

theorem toNat_emod_lt (h1 : 1 ≤ size) (d : Int) : (d % size).toNat < size := by
  have h0 : 0 ≤ d % size := Int.emod_nonneg d (by omega)
  exact (Int.toNat_lt h0).mpr (Int.emod_lt_of_pos d (by omega))

/-- The place k below i, counted around the size. -/
theorem sub_emod_size {i k : Nat} (hi : i < size) (hk : k < size) :
    (((i : Int) - k) % size).toNat = if k ≤ i then i - k else size - k + i := by
  split
  · rw [Int.emod_eq_of_lt (by omega) (by omega)]
    omega
  · rw [← Int.add_emod_right, Int.emod_eq_of_lt (by omega) (by omega)]
    omega

/-- Of the two shifted words of a rotation, the one gives the bits from k up and the other those below. -/
theorem testBit_shifts {n i k : Nat} (hn : n < 2 ^ size) (hi : i < size) (hk : k < size) :
    ((n <<< k ||| n >>> (size - k)) % 2 ^ size).testBit i = n.testBit (((i : Int) - k) % size).toNat := by
  rw [sub_emod_size hi hk, Nat.testBit_mod_two_pow, Nat.testBit_or, Nat.testBit_shiftLeft, Nat.testBit_shiftRight]
  split
  case isTrue h =>
    have htop : n.testBit (size - k + i) = false :=
      Nat.testBit_lt_two_pow (Nat.lt_of_lt_of_le hn (Nat.pow_le_pow_right Nat.two_pos (by omega)))
    simp [hi, h, htop]
  case isFalse h => simp [hi, h]

/-- What a rotation gives (`40_bitops_alu.md` R176): a word below 2^size whose bit i is the first word's bit d places below i,
counted around the size. -/
theorem exists_rotate_eq_some (h1 : 1 ≤ size) (h32 : size ≤ 32) (hb : bits.toNat < 2 ^ size) (d : Int) :
    ∃ r, BitOps.rotate size bits d = some r ∧ r.toNat < 2 ^ size ∧
      ∀ i < size, r.getLsbD i = bits.getLsbD (((i : Int) - d) % size).toNat := by
  refine ⟨_, if_pos ⟨h1, h32, hb⟩, ?_⟩
  have hk : (d % size).toNat < size := toNat_emod_lt h1 d
  have hlt : ∀ n, n % 2 ^ size < 2 ^ size := fun n => Nat.mod_lt n (Nat.two_pow_pos size)
  rw [BitVec.toNat_ofNat, Nat.mod_eq_of_lt (Nat.lt_of_lt_of_le (hlt _) (Nat.pow_le_pow_right Nat.two_pos h32))]
  refine ⟨hlt _, fun i hi => ?_⟩
  have hi32 : i < 32 := Nat.lt_of_lt_of_le hi h32
  rw [BitVec.getLsbD_ofNat, testBit_shifts hb hi hk, Int.toNat_of_nonneg (Int.emod_nonneg d (by omega)), Int.sub_emod_emod,
    BitVec.testBit_toNat, decide_eq_true hi32, Bool.true_and]

/-- The word with those bits is the rotated one. -/
theorem rotate_eq_some (h1 : 1 ≤ size) (h32 : size ≤ 32) (hb : bits.toNat < 2 ^ size) (hr : r.toNat < 2 ^ size)
    (h : ∀ i < size, r.getLsbD i = bits.getLsbD (((i : Int) - d) % size).toNat) : BitOps.rotate size bits d = some r := by
  obtain ⟨q, hq, hlt, hbits⟩ := exists_rotate_eq_some h1 h32 hb d
  rw [hq, eq_of_getLsbD_below hlt hr fun i hi => (hbits i hi).trans (h i hi).symm]

theorem rotate_eq_none (h : 2 ^ size ≤ bits.toNat) : BitOps.rotate size bits d = none :=
  if_neg fun ⟨_, _, hb⟩ => Nat.not_lt.mpr h hb

end

/-- d places up and d places down again, around the size. -/
theorem emod_size_shift_back {size i : Nat} (hi : i < size) (d : Int) :
    (((((i : Int) - -d) % size).toNat : Int) - d) % size = i := by
  rw [Int.toNat_of_nonneg (Int.emod_nonneg _ (by omega)), Int.emod_sub_emod, Int.sub_neg, Int.add_sub_cancel,
    Int.emod_eq_of_lt (by omega) (by omega)]

/-- Settles O55: by the places that the bits come from; the opposite distance leads back to each. -/
theorem rotateInverse : Obligations.RotateInverse := by
  intro size bits d h1 h32
  refine ⟨fun hb => ?_, rotate_eq_none⟩
  obtain ⟨r, hr, hlt, hbits⟩ := exists_rotate_eq_some h1 h32 hb d
  refine ⟨r, hr, hlt, rotate_eq_some h1 h32 hlt hb fun i hi => ?_⟩
  rw [hbits _ (toNat_emod_lt h1 _), emod_size_shift_back hi, Int.toNat_natCast]

end Sys2Proof

/-! PROOFS. The 8-bit loads: where each row's bytes, its operand and its address come from, and what a load or a store leaves
alone. -/

namespace Sys2Proof

/-- An opcode byte whose field y varies, as the statements write it: the fixed fields first. -/
theorem byteXYZ_eq_byteOf (x y z : Nat) : byteXYZ x y z = Machine.byteOf (64 * x + z + 8 * y) :=
  congrArg (BitVec.ofNat 8) (Nat.add_right_comm ..)

end Sys2Proof

namespace Sys2Proof.Machine

/-- The address of the LDH forms, as a sum (`41_load8.md` R244). -/
theorem highPage_eq_add (n : Byte) : highPage n = 0xFF00#16 + n.setWidth 16 := by
  revert n
  decide

theorem hl_busWrite (s : State) (a : Addr) (v : Byte) : (busWrite s a v).hl = s.hl := by
  simp only [State.hl, State.pair, State.reg, busWrite_regs]

theorem RegsBut.trans {k l : List Reg} {s t u : State} (hk : RegsBut k s t) (hl : RegsBut l t u) : RegsBut (k ++ l) s u := by
  intro r hr
  obtain ⟨hrk, hrl⟩ := not_or.mp (mt List.mem_append.mpr hr)
  exact (hl r hrl).trans (hk r hrk)

/-! ## One rule for each kind of 8-bit load -/

section
variable {i : Instr} {o : Op} {s : State}

/-- A register loaded: `load_shape` of the instruction itself. -/
theorem exec_load {r : R8} {v : Byte} (h : i.op = o) (hr : Op.run o s = .next ((s.setR8 r v).retire o)) :
    ∃ t, exec i s = .next t ∧ t.r8 r = v ∧ RegsBut [r.reg] s t ∧ KeepsSpIme s t ∧ Quiet s t ∧ FallsThrough s t i.op :=
  exec_next h hr (h ▸ load_shape s r v o)

/-- A byte stored: `store_shape` of the instruction itself. -/
theorem exec_store {a : Addr} {v : Byte} (h : i.op = o) (hr : Op.run o s = .next ((busWrite s a v).retire o)) :
    ∃ t, exec i s = .next t ∧ StoredByte s t a v ∧ RegsBut [] s t ∧ KeepsSpIme s t ∧ FallsThrough s t i.op :=
  exec_next h hr (h ▸ store_shape s a v o)

/-- A is loaded, and HL is written after it. -/
theorem exec_load_setHl {v : Byte} {w : Addr} (h : i.op = o)
    (hr : Op.run o s = .next (((s.setR8 .a v).setPair .hl w).retire o)) :
    ∃ t, exec i s = .next t ∧ t.reg .a = v ∧ t.pair .hl = w ∧ RegsBut [.a, .h, .l] s t ∧ KeepsSpIme s t ∧ Quiet s t ∧
      FallsThrough s t i.op := by
  obtain ⟨ha, -, hkeep, -, hfall⟩ := load_shape s .a v o
  exact exec_next h hr ⟨ha, pair_setPair _ .hl w nofun, (regsBut_setR8 s .a v).trans (regsBut_setPair _ .hl w), hkeep,
    quiet_of_sameBus ((sameBus_finish _ _ _).trans ((sameBus_setPair _ _ _).trans (sameBus_setR8 _ _ _))), h ▸ hfall⟩

/-- A byte is stored, and HL, which the store leaves alone, is moved after it. -/
theorem exec_store_moveHl {a : Addr} {v : Byte} {move : Addr → Addr} (h : i.op = o)
    (hr : Op.run o s = .next (((busWrite s a v).setPair .hl (move (busWrite s a v).hl)).retire o)) :
    ∃ t, exec i s = .next t ∧ StoredByte s t a v ∧ t.pair .hl = move s.hl ∧ RegsBut [.h, .l] s t ∧ KeepsSpIme s t ∧
      FallsThrough s t i.op := by
  rw [hl_busWrite] at hr
  obtain ⟨-, hregs, hkeep, hfall⟩ := store_shape s a v o
  exact exec_next h hr ⟨storedByte_of_sameBus ((sameBus_finish _ _ _).trans (sameBus_setPair _ _ _)),
    pair_setPair _ .hl _ nofun, hregs.trans (regsBut_setPair _ .hl _), hkeep, h ▸ hfall⟩

end

/-- Settles O6: each form is a register load, of a register, an immediate or the byte at HL. -/
theorem loadRegister : Obligations.LoadRegister := by
  rintro i s dst v length cost bytes (⟨src, h, rfl, rfl, rfl, rfl⟩ | ⟨n8, h, rfl, rfl, rfl, rfl⟩ | ⟨h, rfl, rfl, rfl, rfl⟩)
  · exact ⟨hasRow_of_op h rfl rfl, exec_load h rfl⟩
  · exact ⟨hasRow_of_op h (congrArg ([·, v]) (byteXYZ_eq_byteOf 0 dst.code 6)) rfl, exec_load h rfl⟩
  · exact ⟨hasRow_of_op h (congrArg ([·]) (byteXYZ_eq_byteOf 1 dst.code 6)) rfl, exec_load h rfl⟩

/-- Settles O7: each form loads A from the address of its operand; those of the LDH forms lie in page 0xFF. -/
theorem loadAccumulator : Obligations.LoadAccumulator := by
  rintro i s a length cost bytes (⟨h, rfl, rfl, rfl, rfl⟩ | ⟨h, rfl, rfl, rfl, rfl⟩ | ⟨n8, h, rfl, rfl, rfl, rfl⟩ |
    ⟨h, rfl, rfl, rfl, rfl⟩ | ⟨h, rfl, rfl, rfl⟩)
  · exact ⟨hasRow_of_op h rfl rfl, exec_load (r := .a) h rfl⟩
  · exact ⟨hasRow_of_op h rfl rfl, exec_load (r := .a) h rfl⟩
  · rw [← highPage_eq_add]
    exact ⟨hasRow_of_op h rfl rfl, exec_load (r := .a) h rfl⟩
  · rw [← highPage_eq_add]
    exact ⟨hasRow_of_op h rfl rfl, exec_load (r := .a) h rfl⟩
  · exact ⟨hasRow_of_op h rfl rfl, exec_load (r := .a) h rfl⟩

/-- Settles O8: each form is a store, of a register or an immediate, at the address of its operand; those of the LDH forms lie in
page 0xFF. -/
theorem storeByte : Obligations.StoreByte := by
  rintro i s a v length cost bytes (⟨r, h, rfl, rfl, rfl, rfl, rfl⟩ | ⟨h, rfl, rfl, rfl, rfl⟩ | ⟨h, rfl, rfl, rfl, rfl, rfl⟩ |
    ⟨h, rfl, rfl, rfl, rfl, rfl⟩ | ⟨n8, h, rfl, rfl, rfl, rfl, rfl⟩ | ⟨h, rfl, rfl, rfl, rfl, rfl⟩ | ⟨h, rfl, rfl, rfl, rfl⟩)
  · exact ⟨hasRow_of_op h rfl rfl, exec_store h rfl⟩
  · exact ⟨hasRow_of_op h rfl rfl, exec_store h rfl⟩
  · exact ⟨hasRow_of_op h rfl rfl, exec_store h rfl⟩
  · exact ⟨hasRow_of_op h rfl rfl, exec_store h rfl⟩
  · rw [← highPage_eq_add]
    exact ⟨hasRow_of_op h rfl rfl, exec_store h rfl⟩
  · rw [← highPage_eq_add]
    exact ⟨hasRow_of_op h rfl rfl, exec_store h rfl⟩
  · exact ⟨hasRow_of_op h rfl rfl, exec_store h rfl⟩

/-- Settles O9: the access is made before HL moves, and it leaves HL alone. -/
theorem loadStoreStepHl : Obligations.LoadStoreStepHl := by
  rintro i s _ rfl
  refine ⟨fun h => ⟨hasRow_of_op h rfl rfl, ?_⟩, fun h => ⟨hasRow_of_op h rfl rfl, ?_⟩, fun h => ⟨hasRow_of_op h rfl rfl, ?_⟩,
    fun h => ⟨hasRow_of_op h rfl rfl, ?_⟩⟩
  · exact exec_load_setHl h rfl
  · exact exec_load_setHl h rfl
  · exact exec_store_moveHl (move := (· + 1#16)) h rfl
  · exact exec_store_moveHl (move := (· - 1#16)) h rfl

end Sys2Proof.Machine

/-! PROOFS. The 16-bit loads and the stack: a pair or SP loaded, a 16-bit value stored, a pair pushed and popped. -/

namespace Sys2Proof

/-- An opcode byte whose field p varies, as the statements write it: the fixed fields first. -/
theorem byteXPQZ_eq_byteOf (x p q z : Nat) : byteXPQZ x p q z = Machine.byteOf (64 * x + 8 * q + z + 16 * p) :=
  congrArg (BitVec.ofNat 8) (by omega)

end Sys2Proof

namespace Sys2Proof.Machine

/-! ## The pair of an operand -/

theorem setR16sp_of_pairOf {p : R16sp} {q : Pair} (h : pairOf p = some q) (s : State) (v : Addr) :
    s.setR16sp p v = s.setPair q v := by
  cases p <;> cases h <;> rfl

theorem ne_af_of_pairOf {p : R16sp} {q : Pair} (h : pairOf p = some q) : q ≠ .af := by
  cases p <;> cases h <;> nofun

theorem reg_setPair_high (s : State) (p : Pair) (v : Addr) : (s.setPair p v).reg (Pair.regs p).1 = highByte v := by
  cases p <;> rfl

/-- Through AF the write to F masks the low nibble (`10_state.md` R25). -/
theorem reg_setPair_low (s : State) (p : Pair) (v : Addr) :
    (s.setPair p v).reg (Pair.regs p).2 = if p = .af then lowByte v &&& 0xF0#8 else lowByte v := by
  cases p <;> rfl

/-! ## One rule for each kind of 16-bit load -/

theorem regsBut_busWrite16 (s : State) (a v : Addr) : RegsBut [] s (busWrite16 s a v) :=
  (regsBut_busWrite s a _).trans (regsBut_busWrite _ _ _)

/-- The next instruction follows an act that leaves pc, the counter, the fault latch and the parameters alone. -/
theorem fallsThrough_retire {s t : State} (o : Op) (hpc : t.cpu.pc = s.cpu.pc) (hcyc : t.cyc = s.cyc) (hfault : t.fault = s.fault)
    (hparams : t.params = s.params) : FallsThrough s (t.retire o) o := by
  refine ⟨?_, ?_, hcyc, hfault, hparams⟩
  · rw [retire_pc, State.pcNext, hpc, descriptor_congr hparams]
  · rw [retire_next, hcyc, descriptor_congr hparams]

section
variable {i : Instr} {o : Op} {s : State}

/-- A pair loaded: `loadPair_shape` of the instruction itself. -/
theorem exec_loadPair {p : Pair} {v : Addr} (h : i.op = o) (hp : p ≠ .af)
    (hr : Op.run o s = .next ((s.setPair p v).retire o)) :
    ∃ t, exec i s = .next t ∧ t.pair p = v ∧ RegsBut [(Pair.regs p).1, (Pair.regs p).2] s t ∧ KeepsSpIme s t ∧ Quiet s t ∧
      FallsThrough s t i.op :=
  exec_next h hr (h ▸ loadPair_shape s p v o hp)

theorem exec_loadSp {v : Addr} (h : i.op = o) (hr : Op.run o s = .next ((s.setSp v).retire o)) :
    ∃ t, exec i s = .next t ∧ t.cpu.sp = v ∧ RegsBut [] s t ∧ t.cpu.ime = s.cpu.ime ∧ Quiet s t ∧ FallsThrough s t i.op :=
  exec_next h hr ⟨rfl, fun _ _ => rfl, rfl, quiet_of_sameBus ((sameBus_finish _ _ _).trans (sameBus_setSp s v)),
    h ▸ fallsThrough_retire (s := s) (t := s.setSp v) o rfl rfl rfl rfl⟩

theorem exec_storeWord {a v : Addr} (h : i.op = o) (hr : Op.run o s = .next ((busWrite16 s a v).retire o)) :
    ∃ t, exec i s = .next t ∧ StoredWord s t a v ∧ RegsBut [] s t ∧ KeepsSpIme s t ∧ FallsThrough s t i.op :=
  exec_next h hr ⟨storedWord_of_sameBus (sameBus_finish _ _ _), regsBut_busWrite16 s a v,
    ⟨busWrite16_sp s a v, busWrite16_ime s a v⟩, h ▸ fallsThrough_retire o (busWrite16_pc s a v) (busWrite16_cyc s a v)
      (busWrite16_fault s a v) (busWrite16_params s a v)⟩

theorem exec_push {v : Addr} (h : i.op = o) (hr : Op.run o s = .next ((push16 s v).retire o)) :
    ∃ t, exec i s = .next t ∧ t.cpu.sp = s.cpu.sp - 2#16 ∧ StoredWord s t (s.cpu.sp - 2#16) v ∧ RegsBut [] s t ∧
      t.cpu.ime = s.cpu.ime ∧ FallsThrough s t i.op :=
  exec_next h hr ⟨push16_sp s v, storedWord_push16 (sameBus_finish _ _ _), regsBut_push16 s v, push16_ime s v,
    h ▸ fallsThrough_retire o (push16_pc s v) (push16_cyc s v) (push16_fault s v) (push16_params s v)⟩

end

end Sys2Proof.Machine

namespace Sys2Proof

open Machine

/-- Settles O10: each form is the load of a pair other than AF, or of SP. -/
theorem loadPair : Obligations.LoadPair := by
  intro i s n16
  refine ⟨fun p q h hq => ⟨hasRow_of_op h ?_ rfl, ?_⟩, fun h => ⟨hasRow_of_op h rfl rfl, exec_loadSp h rfl⟩,
    fun h => ⟨hasRow_of_op h rfl rfl, exec_loadSp h rfl⟩⟩
  · exact congrArg (bytesN16 · n16) (byteXPQZ_eq_byteOf 0 p.code 0 1)
  · refine exec_loadPair h (ne_af_of_pairOf hq) ?_
    rw [← setR16sp_of_pairOf hq]
    rfl

/-- Settles O11: both forms are one 16-bit store, at n16 or below sp. -/
theorem storeSpAndPush : Obligations.StoreSpAndPush := by
  intro i s
  refine ⟨fun n16 h => ⟨hasRow_of_op h rfl rfl, exec_storeWord h rfl⟩, fun p h => ⟨hasRow_of_op h ?_ rfl, exec_push h rfl⟩⟩
  exact congrArg ([·]) (byteXPQZ_eq_byteOf 3 p.code 0 5)

/-- Settles O12: the pair takes the two halves of the popped value, which are the bytes at sp + 1 and at sp. -/
theorem popPair : Obligations.PopPair := by
  intro i s p h
  have hhigh : highByte (popValue s) = busRead s (s.cpu.sp + 1#16) := highByte_make16 _ _
  have hlow : lowByte (popValue s) = busRead s s.cpu.sp := lowByte_make16 _ _
  refine ⟨hasRow_of_op h (congrArg ([·]) (byteXPQZ_eq_byteOf 3 p.code 0 1)) rfl, exec_next h rfl ⟨?_, ?_, rfl, ?_, rfl, ?_, ?_⟩⟩
  · exact (reg_setPair_high (popped s) p (popValue s)).trans hhigh
  · exact hlow ▸ reg_setPair_low (popped s) p (popValue s)
  · exact regsBut_setPair (popped s) p (popValue s)
  · exact quiet_of_sameBus ((sameBus_finish _ _ _).trans ((sameBus_setPair _ _ _).trans (sameBus_popped s)))
  · rw [h]
    exact fallsThrough_retire (.pop p) rfl rfl rfl rfl

end Sys2Proof

/-! PROOFS. The 8-bit arithmetic and logic: one rule for the operations on A, which all three operand forms share, one for each kind
of INC, DEC and flag instruction, and the decimal sum. -/

namespace Sys2Proof.Alu

/-! ## Sums and differences as words -/

theorem add_v (l r : Byte) : (add l r false).v = l + r := by
  have h : (add l r false).v = BitVec.ofNat 8 (l.toNat + r.toNat) := rfl
  rw [h, BitVec.ofNat_add, BitVec.ofNat_toNat, BitVec.ofNat_toNat, BitVec.setWidth_eq, BitVec.setWidth_eq]

theorem sub_v (l r : Byte) : (sub l r false).v = l - r := by
  have h : (sub l r false).v = BitVec.ofInt 8 (l.toNat - r.toNat) := congrArg (BitVec.ofInt 8) (Int.sub_zero _)
  rw [h, ofInt_toNat_sub, BitVec.ofNat_toNat, BitVec.setWidth_eq]

end Sys2Proof.Alu

namespace Sys2Proof.Machine

/-! ## The operations on A -/

/-- Where a tuple of R281 to R304 gives a constant, the ALU gives the same: the flags written are the ALU's. -/
theorem aluTuple_pick_aluFn (o : AluOp) (l r : Byte) (carry : Bool) (old : Flags) :
    (aluTuple o).pick (aluFn o l r carry).f old = (aluFn o l r carry).f := by
  cases o <;> rfl

section
variable {i : Instr} {s : State} {o : AluOp} {x : Byte} {length cost : Nat} {bytes : List Byte}

theorem AluForm.hasRow (h : AluForm i s o x length cost bytes) : HasRow i bytes length cost 0 := by
  cases h with
  | reg r h => exact hasRow_of_op h rfl rfl
  | imm _ h => exact hasRow_of_op h (congrArg ([·, x]) (byteXYZ_eq_byteOf 3 o.code 6)) rfl
  | hl h => exact hasRow_of_op h (congrArg ([·]) (byteXYZ_eq_byteOf 2 o.code 6)) rfl

theorem AluForm.run_op (h : AluForm i s o x length cost bytes) : Op.run i.op s = .next ((s.aluA o x).retire i.op) := by
  cases h with
  | reg r h => rw [h]; rfl
  | imm _ h => rw [h]; rfl
  | hl h => rw [h]; rfl

/-- An 8-bit operation on A: `aluA_shape` of the instruction itself, whichever the operand form. -/
theorem exec_alu (h : AluForm i s o x length cost bytes) :
    ∃ t, exec i s = .next t ∧ t.reg .a = (if o = .cp then s.reg .a else (aluFn o (s.reg .a) x s.flags.c).v) ∧
      t.flags = (aluFn o (s.reg .a) x s.flags.c).f ∧ FlagsClean t ∧ RegsBut [.a, .f] s t ∧ KeepsSpIme s t ∧ Quiet s t ∧
      FallsThrough s t i.op := by
  have hshape := aluA_shape s o x i.op
  rw [aluTuple_pick_aluFn] at hshape
  exact exec_next rfl h.run_op hshape

end

/-! ## INC, DEC and the flag instructions -/

/-- The flags of INC (`43_alu8.md` R305): the sum is 0 after 0xFF, and carries out of bit 3 after a low nibble of 15. -/
theorem incTuple_pick_add (v : Byte) (old : Flags) :
    incTuple.pick (Alu.add v 1#8 false).f old =
      { z := decide (v = 0xFF#8), n := false, h := decide (v.toNat % 16 = 15), c := old.c } := by
  have hz : (Alu.add v 1#8 false).v = 0#8 ↔ v = 0xFF#8 := by rw [Alu.add_v]; bv_omega
  have hh : v.toNat % 16 + 1 + 0 > 15 ↔ v.toNat % 16 = 15 := by omega
  rw [← decide_eq_decide.mpr hz, ← decide_eq_decide.mpr hh]
  rfl

/-- The flags of DEC (R307): the difference is 0 after 1, and borrows into bit 3 after a low nibble of 0. -/
theorem decTuple_pick_sub (v : Byte) (old : Flags) :
    decTuple.pick (Alu.sub v 1#8 false).f old =
      { z := decide (v = 1#8), n := true, h := decide (v.toNat % 16 = 0), c := old.c } := by
  have hz : (Alu.sub v 1#8 false).v = 0#8 ↔ v = 1#8 := by rw [Alu.sub_v]; bv_omega
  have hh : v.toNat % 16 < 1 + 0 ↔ v.toNat % 16 = 0 := by omega
  rw [← decide_eq_decide.mpr hz, ← decide_eq_decide.mpr hh]
  rfl

section
variable {i : Instr} {o : Op} {s : State} {p : FlagTuple} {f : Flags}

/-- Flags alone: `flags_shape` of the instruction itself. -/
theorem exec_flags (h : i.op = o) (hr : Op.run o s = .next ((s.setFlags p f).retire o)) :
    ∃ t, exec i s = .next t ∧ t.flags = p.pick f s.flags ∧ FlagsClean t ∧ RegsBut [.f] s t ∧ KeepsSpIme s t ∧ Quiet s t ∧
      FallsThrough s t i.op :=
  exec_next h hr (h ▸ flags_shape s p f o)

/-- A byte in memory computed with its flags: `modify_shape` of the instruction itself. -/
theorem exec_modify {a : Addr} {v : Byte} (h : i.op = o)
    (hr : Op.run o s = .next ((busWrite (s.setFlags p f) a v).retire o)) :
    ∃ t, exec i s = .next t ∧ StoredByte s t a v ∧ t.flags = p.pick f s.flags ∧ FlagsClean t ∧ RegsBut [.f] s t ∧
      KeepsSpIme s t ∧ FallsThrough s t i.op :=
  exec_next h hr (h ▸ modify_shape s p f a v o)

end

end Sys2Proof.Machine

namespace Sys2Proof

open Machine

/-- Settles O13: A and the flags are those of `Alu.add`, with the carry in for ADC alone. -/
theorem addAndAdc : Obligations.AddAndAdc := by
  intro i s o x length cost bytes c hform hc
  obtain ⟨t, ht, ha, hf, hframe⟩ := exec_alu hform
  refine ⟨hform.hasRow, t, ht, ?_⟩
  obtain ⟨rfl, rfl⟩ | ⟨rfl, rfl⟩ := hc <;> exact ⟨ha, ha ▸ hf, hframe⟩

/-- Settles O14: the difference and the flags are those of `Alu.sub`, with the borrow in for SBC alone; CP leaves A as it is. -/
theorem subSbcAndCp : Obligations.SubSbcAndCp := by
  rintro i s o x length cost bytes b v hform hb rfl
  obtain ⟨t, ht, ha, hf, hframe⟩ := exec_alu hform
  refine ⟨hform.hasRow, t, ht, ?_⟩
  obtain ⟨rfl | rfl, rfl⟩ | ⟨rfl, rfl⟩ := hb <;> exact ⟨ha, hf, hframe⟩

/-- Settles O15: the value and the flags are those of `Alu.logic`. -/
theorem andXorAndOr : Obligations.AndXorAndOr := by
  intro i s o x length cost bytes v hform hv
  obtain ⟨t, ht, ha, hf, hframe⟩ := exec_alu hform
  refine ⟨hform.hasRow, t, ht, ?_⟩
  obtain ⟨rfl, rfl⟩ | ⟨rfl, rfl⟩ | ⟨rfl, rfl⟩ := hv <;> exact ⟨ha, hf, hframe⟩

/-- Settles O16: each form adds or subtracts 1 in the ALU and keeps C; the (HL) forms store at the address they read. -/
theorem incDecByte : Obligations.IncDecByte := by
  rintro i s r _ v _ _ rfl rfl rfl
  rw [← Alu.add_v, ← Alu.sub_v, ← incTuple_pick_add, ← decTuple_pick_sub]
  refine ⟨?_, ?_, ?_, ?_⟩
  · rintro h rfl
    exact ⟨hasRow_of_op h (congrArg ([·]) (byteXYZ_eq_byteOf 0 r.code 4)) rfl, exec_compute h rfl⟩
  · rintro h rfl
    exact ⟨hasRow_of_op h (congrArg ([·]) (byteXYZ_eq_byteOf 0 r.code 5)) rfl, exec_compute h rfl⟩
  · rintro h rfl
    exact ⟨hasRow_of_op h rfl rfl, exec_modify h rfl⟩
  · rintro h rfl
    exact ⟨hasRow_of_op h rfl rfl, exec_modify h rfl⟩

/-- Settles O17: CPL computes A, SCF and CCF the flags alone; their tuples name the flags. -/
theorem complementAndCarry : Obligations.ComplementAndCarry := by
  intro i s
  refine ⟨fun h => ?_, fun h => ?_, fun h => ?_⟩
  · exact ⟨hasRow_of_op h rfl rfl, exec_compute (r := .a) h rfl⟩
  · exact ⟨hasRow_of_op h rfl rfl, exec_flags h rfl⟩
  · exact ⟨hasRow_of_op h rfl rfl, exec_flags h rfl⟩

/-! ## The decimal sum -/

section
variable {d1 d0 : Nat}

/-- The correction of the low digit is due exactly when the digits' sum is not a digit; the sum of the bytes shows it in H or in
its low nibble (`43_alu8.md` R309). -/
theorem decimal_low_carry (h0 : d0 ≤ 18) : d0 > 9 ↔ d0 > 15 ∨ (16 * d1 + d0) % 256 % 16 > 9 := by omega

/-- The correction of the high digit is due exactly when the sum reaches 100; the sum of the bytes shows it in C or above 0x99. -/
theorem decimal_high_carry (h1 : d1 ≤ 18) (h0 : d0 ≤ 18) :
    10 * d1 + d0 ≥ 100 ↔ 16 * d1 + d0 > 0xFF ∨ (16 * d1 + d0) % 256 > 0x99 := by omega

/-- The correction of the low digit carries ten units into the tens. -/
theorem decimal_low_digit (h0 : d0 ≤ 18) :
    16 * d1 + d0 + (if d0 > 9 then 0x06 else 0) = 16 * (d1 + d0 / 10) + d0 % 10 := by
  split <;> omega

/-- The correction of the high digit takes the hundred out of the byte. -/
theorem decimal_high_digit {tens units : Nat} (ht : tens ≤ 19) (hu : units ≤ 9) :
    (16 * tens + units + (if tens ≥ 10 then 0x60 else 0)) % 256 = 16 * (tens % 10) + units := by
  split <;> omega

/-- With both corrections the byte holds the two low digits of the sum. -/
theorem decimal_corrected (h1 : d1 ≤ 18) (h0 : d0 ≤ 18) :
    (16 * d1 + d0 + ((if 10 * d1 + d0 ≥ 100 then 0x60 else 0) + (if d0 > 9 then 0x06 else 0))) % 256 =
      16 * ((10 * d1 + d0) % 100 / 10) + (10 * d1 + d0) % 10 := by
  have htens : (10 * d1 + d0) % 100 / 10 = (d1 + d0 / 10) % 10 := by
    rw [Nat.mod_mul_right_div_self (10 * d1 + d0) 10 10, Nat.mul_add_div (by omega)]
  have hunits : (10 * d1 + d0) % 10 = d0 % 10 := Nat.mul_add_mod ..
  have hhundred : 10 * d1 + d0 ≥ 100 ↔ d1 + d0 / 10 ≥ 10 := by omega
  rw [htens, hunits, Nat.add_comm (ite ..), ← Nat.add_assoc, decimal_low_digit h0]
  simp only [hhundred]
  exact decimal_high_digit (by omega) (by omega)

end

/-- ADD of two decimal bytes: the digits' sums stand in the two nibbles of the sum, H and C say which went past 15. -/
theorem exec_add_decimal {i : Instr} {s t : State} {r : R8} {x1 x0 y1 y0 : Nat} (hx1 : x1 ≤ 9) (hx0 : x0 ≤ 9) (hy1 : y1 ≤ 9)
    (hy0 : y0 ≤ 9) (hx : s.reg .a = byteOf (16 * x1 + x0)) (hy : s.r8 r = byteOf (16 * y1 + y0)) (hi : i.op = .aluR .add r)
    (ht : exec i s = .next t) :
    (t.reg .a).toNat = (16 * (x1 + y1) + (x0 + y0)) % 256 ∧ t.flags.n = false ∧ t.flags.h = decide (x0 + y0 > 15) ∧
      t.flags.c = decide (16 * (x1 + y1) + (x0 + y0) > 0xFF) := by
  have hxn : (s.reg .a).toNat = 16 * x1 + x0 := by rw [hx, BitVec.toNat_ofNat]; omega
  have hyn : (s.r8 r).toNat = 16 * y1 + y0 := by rw [hy, BitVec.toNat_ofNat]; omega
  have hsum : (s.reg .a).toNat + (s.r8 r).toNat + 0 = 16 * (x1 + y1) + (x0 + y0) := by omega
  have hlow : (s.reg .a).toNat % 16 + (s.r8 r).toNat % 16 + 0 = x0 + y0 := by omega
  obtain ⟨-, t', hit, ha, hf, -⟩ := addAndAdc i s .add _ _ _ _ 0 (.reg r hi) (.inl ⟨rfl, rfl⟩)
  cases ht.symm.trans hit
  rw [hsum] at ha hf
  rw [hlow] at hf
  exact ⟨ha ▸ BitVec.toNat_ofNat .., congrArg Flags.n hf, congrArg Flags.h hf, congrArg Flags.c hf⟩

/-- Settles O19: the flags and the sum of the bytes tell DAA which sums of digits are no digits. -/
theorem decimalAddition : Obligations.DecimalAddition := by
  intro s t u r x1 x0 y1 y0 i j hx1 hx0 hy1 hy0 hx hy hi hj ht hu
  have h1 : x1 + y1 ≤ 18 := by omega
  have h0 : x0 + y0 ≤ 18 := by omega
  obtain ⟨ha, hn, hh, hc⟩ := exec_add_decimal hx1 hx0 hy1 hy0 hx hy hi ht
  have hten : 10 * x1 + x0 + (10 * y1 + y0) = 10 * (x1 + y1) + (x0 + y0) := by omega
  rw [hten]
  generalize x1 + y1 = d1 at *
  generalize x0 + y0 = d0 at *
  have hL : decide (d0 > 9) = (t.flags.h || (!t.flags.n && decide ((t.reg .a).toNat % 16 > 9))) := by
    rw [hh, hn, ha, decide_eq_decide.mpr (decimal_low_carry (d1 := d1) h0)]
    exact Bool.decide_or ..
  have hH : decide (10 * d1 + d0 ≥ 100) = (t.flags.c || (!t.flags.n && decide ((t.reg .a).toNat > 0x99))) := by
    rw [hc, hn, ha, decide_eq_decide.mpr (decimal_high_carry h1 h0)]
    exact Bool.decide_or ..
  obtain ⟨-, u', hju, hua, huf, -⟩ := decimalAdjust j t _ _ _ hj hL hH rfl
  cases hu.symm.trans hju
  refine ⟨?_, congrArg Flags.c huf⟩
  rw [hn, if_neg Bool.false_ne_true, ofInt_toNat_add] at hua
  rw [hua, BitVec.toNat_add, BitVec.toNat_ofNat, ha, Nat.add_mod_mod, Nat.mod_add_mod]
  simp only [decide_eq_true_eq]
  exact decimal_corrected h1 h0

end Sys2Proof

/-! PROOFS. The 16-bit arithmetic: a pair or SP moved by one, HL and SP computed with their flags, and the signed displacement as a
word. -/

namespace Sys2Proof

/-! ## The signed displacement -/

theorem sext16_eq_signExtend (e8 : Byte) : sext16 e8 = e8.signExtend 16 := by
  refine BitVec.eq_of_getLsbD_eq fun i hi => ?_
  have hi32 : i < 32 := Nat.lt_trans hi (by decide)
  rw [sext16, BitOps.signExtend8, BitVec.getLsbD_setWidth, BitVec.getLsbD_signExtend, BitVec.getLsbD_signExtend,
    decide_eq_true hi32, Bool.true_and]

theorem sext16_eq_ofInt (e8 : Byte) : sext16 e8 = BitVec.ofInt 16 e8.toInt := sext16_eq_signExtend e8

/-- The low byte of the displacement is the byte e8, whatever its sign (`44_alu16.md` R323). -/
theorem toNat_sext16_mod (e8 : Byte) : (sext16 e8).toNat % 256 = e8.toNat := by
  have he := e8.isLt
  rw [sext16_eq_signExtend, BitVec.toNat_signExtend, BitVec.toNat_setWidth]
  split <;> omega

end Sys2Proof

namespace Sys2Proof.Machine

/-! ## The sum of sp and the displacement -/

theorem spPlus_v (s : State) (e8 : Byte) : (spPlus s e8).v = BitVec.ofInt 16 (s.cpu.sp.toNat + e8.toInt) := by
  rw [BitVec.ofInt_add, BitVec.ofInt_natCast, BitVec.ofNat_toNat, BitVec.setWidth_eq, ← sext16_eq_ofInt]
  rfl

/-- The flags that ADD SP,e8 and LD HL,SP+e8 write (R323, R324): the carries of the low bytes, added as unsigned numbers. -/
theorem spTuple_pick_spPlus (s : State) (e8 : Byte) (old : Flags) :
    spTuple.pick (spPlus s e8).f old =
      { z := false, n := false, h := decide (s.cpu.sp.toNat % 16 + e8.toNat % 16 > 0xF)
        c := decide (s.cpu.sp.toNat % 256 + e8.toNat > 0xFF) } := by
  have hnibble : (sext16 e8).toNat % 16 = e8.toNat % 16 := by
    rw [← toNat_sext16_mod, Nat.mod_mod_of_dvd _ (by decide)]
  rw [← hnibble, ← toNat_sext16_mod]
  rfl

/-! ## One rule for each kind of 16-bit operation -/

theorem r16sp_of_pairOf {p : R16sp} {q : Pair} (h : pairOf p = some q) (s : State) : s.r16sp p = s.pair q := by
  cases p <;> cases h <;> rfl

section
variable {i : Instr} {o : Op} {s : State} {v : Addr}

/-- The pair of an operand loaded: `exec_loadPair`, in the terms of the operand. -/
theorem exec_loadOperandPair {p : R16sp} {q : Pair} (h : i.op = o) (hq : pairOf p = some q)
    (hr : Op.run o s = .next ((s.setR16sp p v).retire o)) :
    ∃ t, exec i s = .next t ∧ t.pair q = v ∧ RegsBut [(Pair.regs q).1, (Pair.regs q).2] s t ∧ KeepsSpIme s t ∧ Quiet s t ∧
      FallsThrough s t i.op :=
  exec_loadPair h (ne_af_of_pairOf hq) (setR16sp_of_pairOf hq s v ▸ hr)

/-- HL computed with the flags: `computeHl_shape` of the instruction itself. -/
theorem exec_computeHl {p : FlagTuple} {f : Flags} (h : i.op = o)
    (hr : Op.run o s = .next (((s.setFlags p f).setPair .hl v).retire o)) :
    ∃ t, exec i s = .next t ∧ t.pair .hl = v ∧ t.flags = p.pick f s.flags ∧ FlagsClean t ∧ RegsBut [.h, .l, .f] s t ∧
      KeepsSpIme s t ∧ Quiet s t ∧ FallsThrough s t i.op :=
  exec_next h hr (h ▸ computeHl_shape s p f v o)

/-- SP computed with the flags: the registers are those of `flags_shape`, which the write of SP leaves alone. -/
theorem exec_computeSp {p : FlagTuple} {f : Flags} (h : i.op = o)
    (hr : Op.run o s = .next (((s.setFlags p f).setSp v).retire o)) :
    ∃ t, exec i s = .next t ∧ t.cpu.sp = v ∧ t.flags = p.pick f s.flags ∧ FlagsClean t ∧ RegsBut [.f] s t ∧
      t.cpu.ime = s.cpu.ime ∧ Quiet s t ∧ FallsThrough s t i.op := by
  obtain ⟨hflags, hclean, hregs, -, -, hfall⟩ := flags_shape s p f o
  exact exec_next h hr ⟨rfl, hflags, hclean, hregs, rfl,
    quiet_of_sameBus ((sameBus_finish _ _ _).trans ((sameBus_setSp _ _).trans (sameBus_setFlags _ _ _))), h ▸ hfall⟩

end

end Sys2Proof.Machine

namespace Sys2Proof

open Machine

/-- Settles O20: HL and the flags are those of `Alu.add16H`, whose sum is of HL and the operand. -/
theorem addToHl : Obligations.AddToHl := by
  intro i s p x h hx
  have hoperand : x = s.r16sp p := by cases p <;> exact hx
  subst hoperand
  exact ⟨hasRow_of_op h (congrArg ([·]) (byteXPQZ_eq_byteOf 0 p.code 1 1)) rfl, exec_computeHl h rfl⟩

/-- Settles O21: each form is the load of a pair other than AF, or of SP, with the next or the previous value. -/
theorem incDecPair : Obligations.IncDecPair := by
  intro i s p
  refine ⟨fun q h hq => ?_, fun q h hq => ?_, fun h => ⟨hasRow_of_op h rfl rfl, exec_loadSp h rfl⟩,
    fun h => ⟨hasRow_of_op h rfl rfl, exec_loadSp h rfl⟩⟩
  · rw [← r16sp_of_pairOf hq]
    exact ⟨hasRow_of_op h (congrArg ([·]) (byteXPQZ_eq_byteOf 0 p.code 0 3)) rfl, exec_loadOperandPair h hq rfl⟩
  · rw [← r16sp_of_pairOf hq]
    exact ⟨hasRow_of_op h (congrArg ([·]) (byteXPQZ_eq_byteOf 0 p.code 1 3)) rfl, exec_loadOperandPair h hq rfl⟩

/-- Settles O22: both forms give `spPlus`, whose value is the signed sum and whose flags are those of the low bytes. -/
theorem addSignedToSp : Obligations.AddSignedToSp := by
  rintro i s e8 _ rfl
  rw [← spPlus_v, ← spTuple_pick_spPlus s e8 s.flags]
  exact ⟨fun h => ⟨hasRow_of_op h rfl rfl, exec_computeSp h rfl⟩, fun h => ⟨hasRow_of_op h rfl rfl, exec_computeHl h rfl⟩⟩

end Sys2Proof

/-! PROOFS. The rotates and shifts: the ALU's values and flags as those of the statements, and the bytes of the prefixed rows. -/

namespace Sys2Proof

/-- The second byte of a prefixed rotate or shift, whose field x is 0 (`30_encoding.md` R137). -/
theorem byteXYZ_zero_eq_byteOf (y z : Nat) : byteXYZ 0 y z = Machine.byteOf (8 * y + z) :=
  congrArg (BitVec.ofNat 8 <| · + z) (Nat.zero_add _)

end Sys2Proof

namespace Sys2Proof.Alu

/-! ## The bits a rotate or shift brings in -/

/-- The ejected bit 7, brought in at bit 0, is the part of a rotation to the left that comes around (`40_bitops_alu.md` R203). -/
theorem bitIf_bit7 (v : Byte) : bitIf (v.getLsbD 7) 0 = v >>> 7 := by
  revert v
  decide

/-- The ejected bit 0, brought in at bit 7, is the part of a rotation to the right that comes around (R203). -/
theorem bitIf_bit0 (v : Byte) : bitIf (v.getLsbD 0) 7 = v <<< 7 := by
  revert v
  decide

/-- A shift to the right that keeps bit 7 is the arithmetic shift (R201). -/
theorem ushiftRight_or_bit7 (v : Byte) : v >>> 1 ||| (v &&& 0x80#8) = v.sshiftRight 1 := by
  revert v
  decide

end Sys2Proof.Alu

namespace Sys2Proof.Machine

/-! ## The ALU function and the tuple of an operation -/

theorem shiftFn_v (o : ShiftOp) (v : Byte) (carry : Bool) : (shiftFn o v carry).v = shiftValue o v carry := by
  cases o with
  | rlc => exact congrArg (v <<< 1 ||| ·) (Alu.bitIf_bit7 v)
  | rrc => exact congrArg (v >>> 1 ||| ·) (Alu.bitIf_bit0 v)
  | sra => exact Alu.ushiftRight_or_bit7 v
  | rl | rr | sla | swap | srl => rfl

/-- The flags written: Z of the result, N and H clear, the ejected bit in C; the tuple of SWAP clears C (`45_rotate_shift.md` R335
to R350). -/
theorem shiftTuple_pick_shiftFn (o : ShiftOp) (v : Byte) (carry : Bool) (old : Flags) :
    (shiftTuple o).pick (shiftFn o v carry).f old =
      { z := decide ((shiftFn o v carry).v = 0#8), n := false, h := false, c := shiftCarry o v } := by
  cases o <;> rfl

end Sys2Proof.Machine

namespace Sys2Proof

open Machine

/-- Settles O23: each form is the ALU's rotate of A, and its tuple clears Z (R330). -/
theorem rotateAccumulator : Obligations.RotateAccumulator := by
  intro i s o byte hform
  rw [← shiftFn_v]
  obtain ⟨h, rfl, rfl⟩ | ⟨h, rfl, rfl⟩ | ⟨h, rfl, rfl⟩ | ⟨h, rfl, rfl⟩ := hform <;>
    exact ⟨hasRow_of_op h rfl rfl, exec_compute (r := .a) h rfl⟩

/-- Settles O24: the register takes the ALU's result, with the flags of the operation's tuple. -/
theorem shiftRegister : Obligations.ShiftRegister := by
  rintro i s o r _ h rfl
  rw [← shiftFn_v, ← shiftTuple_pick_shiftFn (old := s.flags)]
  exact ⟨hasRow_of_op h (congrArg ([0xCB#8, ·]) (byteXYZ_zero_eq_byteOf o.code r.code)) rfl, exec_compute h rfl⟩

/-- Settles O25: the byte at HL is replaced by the ALU's result, with the flags of the operation's tuple. -/
theorem shiftAtHl : Obligations.ShiftAtHl := by
  rintro i s o _ _ h rfl rfl
  rw [← shiftFn_v, ← shiftTuple_pick_shiftFn (old := s.flags)]
  exact ⟨hasRow_of_op h (congrArg ([0xCB#8, ·]) (byteXYZ_zero_eq_byteOf o.code 6)) rfl, exec_modify h rfl⟩

end Sys2Proof

/-! PROOFS. The single-bit instructions: `bitSet` bit by bit, and the register that RES or SET writes. -/

namespace Sys2Proof

/-! ## The bits of a value with one bit made 0 or 1 -/

section
variable {w i : Nat} (hi : i < w) (v : BitVec w) (k : Nat)
include hi

theorem getLsbD_bitSet_false : (bitSet v i false).getLsbD k = (v.getLsbD k && decide (k ≠ i)) := by
  have hmask : bitSet v i false = v &&& ~~~BitVec.twoPow w i := rfl
  rw [hmask, BitVec.getLsbD_and, BitVec.getLsbD_not, BitVec.getLsbD_twoPow, decide_eq_true hi, Bool.true_and, ← decide_not,
    decide_eq_decide.mpr ne_comm]
  obtain hk | hk := Nat.lt_or_ge k w
  · rw [decide_eq_true hk, Bool.true_and]
  · rw [BitVec.getLsbD_of_ge v k hk, Bool.false_and, Bool.false_and]

theorem getLsbD_bitSet_true : (bitSet v i true).getLsbD k = (v.getLsbD k || decide (k = i)) := by
  have hmask : bitSet v i true = v ||| BitVec.twoPow w i := rfl
  rw [hmask, BitVec.getLsbD_or, BitVec.getLsbD_twoPow, decide_eq_true hi, Bool.true_and, decide_eq_decide.mpr eq_comm]

end

end Sys2Proof

namespace Sys2Proof.Machine

/-- One bit of a register written: `exec_load`, bit by bit. -/
theorem exec_setRegBit {i : Instr} {o : Op} {s : State} {b : Fin 8} {r : R8} {x : Bool} (h : i.op = o)
    (hr : Op.run o s = .next ((s.setRegBit r.reg b x).retire o)) :
    ∃ t, exec i s = .next t ∧ (∀ k, (t.r8 r).getLsbD k = (bitSet (s.r8 r) b.val x).getLsbD k) ∧ RegsBut [r.reg] s t ∧
      KeepsSpIme s t ∧ Quiet s t ∧ FallsThrough s t i.op := by
  obtain ⟨t, ht, hv, hframe⟩ := exec_load h hr
  exact ⟨t, ht, fun k => congrArg (BitVec.getLsbD · k) hv, hframe⟩

end Sys2Proof.Machine

namespace Sys2Proof

open Machine

/-- Settles O26: both forms write the flags of `Alu.testBit` alone, through the tuple that keeps C. -/
theorem testBit : Obligations.TestBit := by
  rintro i s b _ _ _ (⟨r, h, rfl, rfl, rfl⟩ | ⟨h, rfl, rfl, rfl⟩)
  · exact ⟨hasRow_of_op h rfl rfl, exec_flags h rfl⟩
  · exact ⟨hasRow_of_op h (congrArg ([0xCB#8, ·]) (byteXYZ_eq_byteOf 1 b.val 6)) rfl, exec_flags h rfl⟩

/-- Settles O27: each form writes `bitSet` of the operand, back to the register or to the address read. -/
theorem resetSetBit : Obligations.ResetSetBit := by
  rintro i s b r _ rfl
  simp only [← getLsbD_bitSet_false b.isLt, ← getLsbD_bitSet_true b.isLt]
  refine ⟨fun h => ⟨hasRow_of_op h rfl rfl, ?_⟩, fun h => ⟨hasRow_of_op h rfl rfl, ?_⟩, fun h => ⟨?_, ?_⟩, fun h => ⟨?_, ?_⟩⟩
  · exact exec_setRegBit h rfl
  · exact exec_setRegBit h rfl
  · exact hasRow_of_op h (congrArg ([0xCB#8, ·]) (byteXYZ_eq_byteOf 2 b.val 6)) rfl
  · exact exec_store h rfl
  · exact hasRow_of_op h (congrArg ([0xCB#8, ·]) (byteXYZ_eq_byteOf 3 b.val 6)) rfl
  · exact exec_store h rfl

end Sys2Proof

/-! PROOFS. Jumps, calls, returns and restarts: one rule for each kind of transfer of control, taken or not. -/

namespace Sys2Proof.Machine

/-! ## What a transfer pushes and where it goes -/

/-- A displacement from the next instruction, in the integers (`47_control.md` R373). -/
theorem pcNext_add_sext16 (s : State) (o : Op) (e8 : Byte) :
    s.pcNext o + sext16 e8 = BitVec.ofInt 16 (s.cpu.pc.toNat + (s.descriptor o).length + e8.toInt) := by
  rw [BitVec.ofInt_add, BitVec.ofInt_add, BitVec.ofInt_natCast, BitVec.ofInt_natCast, BitVec.ofNat_toNat, BitVec.setWidth_eq,
    ← sext16_eq_ofInt, State.pcNext]

theorem descriptor_push16 (s : State) (v : Addr) (o : Op) : (push16 s v).descriptor o = s.descriptor o :=
  descriptor_congr (push16_params s v) o

/-- A transfer of control that pops, with a value for the master enable, which RETI sets and the others keep (`60_exceptions.md`
R414). -/
theorem popping_shape (s : State) (ime : Bool) (target : Addr) (cost : Nat) :
    (((popped s).setIme ime).finish target cost).cpu.sp = s.cpu.sp + 2#16 ∧
      RegsBut [] s (((popped s).setIme ime).finish target cost) ∧
      (((popped s).setIme ime).finish target cost).cpu.ime = ime ∧ Quiet s (((popped s).setIme ime).finish target cost) ∧
      Ends s (((popped s).setIme ime).finish target cost) target cost :=
  ⟨rfl, fun _ _ => rfl, rfl, quiet_of_sameBus ((sameBus_finish _ _ _).trans ((sameBus_setIme _ _).trans (sameBus_popped s))),
    ⟨rfl, rfl, rfl, rfl, rfl⟩⟩

theorem cpuAct_of_ready {s : State} (hime : s.cpu.ime = true) (hready : s.cpu.ie &&& s.cpu.iflag &&& 0x1F#8 ≠ 0#8) :
    cpuAct s = .next (serviceInterrupt s) := if_pos ⟨hime, hready⟩

/-! ## One rule for each kind of transfer -/

section
variable {i : Instr} {o : Op} {s : State} {v target : Addr} {c : Bool}

/-- A jump: `jumping_shape` of the instruction itself. -/
theorem exec_jump (h : i.op = o) (hr : Op.run o s = .next (s.jump o target)) :
    ∃ t, exec i s = .next t ∧ RegsBut [] s t ∧ KeepsSpIme s t ∧ Quiet s t ∧ GoesTo s t i.op target :=
  exec_next h hr (h ▸ jumping_shape s target _)

theorem exec_jumpIf (h : i.op = o)
    (hr : Op.run o s = if c then .next (s.jumpTaken o target) else .next (s.retire o)) :
    ∃ t, exec i s = .next t ∧ RegsBut [] s t ∧ KeepsSpIme s t ∧ Quiet s t ∧
      (if c then TakenTo s t i.op target else FallsThrough s t i.op) := by
  cases c with
  | true => exact exec_next h hr (h ▸ jumping_shape s target _)
  | false => exact exec_next h hr (h ▸ jumping_shape s _ _)

/-- A call or a restart: `pushing_shape` of the instruction itself. -/
theorem exec_call (h : i.op = o) (hr : Op.run o s = .next ((push16 s v).jump o target)) :
    ∃ t, exec i s = .next t ∧ t.cpu.sp = s.cpu.sp - 2#16 ∧ StoredWord s t (s.cpu.sp - 2#16) v ∧ RegsBut [] s t ∧
      t.cpu.ime = s.cpu.ime ∧ GoesTo s t i.op target := by
  rw [State.jump, descriptor_push16] at hr
  exact exec_next h hr (h ▸ pushing_shape s v target _)

/-- A conditional call pushes only where it is taken. -/
theorem exec_callIf (h : i.op = o)
    (hr : Op.run o s = if c then .next ((push16 s v).jumpTaken o target) else .next (s.retire o)) :
    ∃ t, exec i s = .next t ∧ RegsBut [] s t ∧ t.cpu.ime = s.cpu.ime ∧
      (c = true → t.cpu.sp = s.cpu.sp - 2#16 ∧ StoredWord s t (s.cpu.sp - 2#16) v ∧ TakenTo s t i.op target) ∧
      (c = false → t.cpu.sp = s.cpu.sp ∧ Quiet s t ∧ FallsThrough s t i.op) := by
  cases c with
  | true =>
    rw [State.jumpTaken, descriptor_push16] at hr
    obtain ⟨hsp, hword, hregs, hime, hends⟩ := pushing_shape s v target ((s.descriptor o).cycles + (s.descriptor o).extra)
    exact exec_next h hr ⟨hregs, hime, fun _ => ⟨hsp, hword, h ▸ hends⟩, nofun⟩
  | false =>
    obtain ⟨hregs, ⟨hsp, hime⟩, hquiet, hends⟩ := jumping_shape s (s.pcNext o) (s.descriptor o).cycles
    exact exec_next h hr ⟨hregs, hime, nofun, fun _ => ⟨hsp, hquiet, h ▸ hends⟩⟩

/-- A return: `popping_shape` of the instruction itself, which for RET keeps the master enable that it finds. -/
theorem exec_return {ime : Bool} (h : i.op = o) (hr : Op.run o s = .next (((popped s).setIme ime).jump o target)) :
    ∃ t, exec i s = .next t ∧ t.cpu.sp = s.cpu.sp + 2#16 ∧ RegsBut [] s t ∧ t.cpu.ime = ime ∧ Quiet s t ∧
      GoesTo s t i.op target :=
  exec_next h hr (h ▸ popping_shape s ime target _)

/-- A conditional return pops only where it is taken. -/
theorem exec_returnIf (h : i.op = o)
    (hr : Op.run o s = if c then .next ((popped s).jumpTaken o target) else .next (s.retire o)) :
    ∃ t, exec i s = .next t ∧ RegsBut [] s t ∧ t.cpu.ime = s.cpu.ime ∧ Quiet s t ∧
      (c = true → t.cpu.sp = s.cpu.sp + 2#16 ∧ TakenTo s t i.op target) ∧
      (c = false → t.cpu.sp = s.cpu.sp ∧ FallsThrough s t i.op) := by
  cases c with
  | true =>
    obtain ⟨hsp, hregs, hime, hquiet, hends⟩ :=
      popping_shape s s.cpu.ime target ((s.descriptor o).cycles + (s.descriptor o).extra)
    exact exec_next h hr ⟨hregs, hime, hquiet, fun _ => ⟨hsp, h ▸ hends⟩, nofun⟩
  | false =>
    obtain ⟨hregs, ⟨hsp, hime⟩, hquiet, hends⟩ := jumping_shape s (s.pcNext o) (s.descriptor o).cycles
    exact exec_next h hr ⟨hregs, hime, hquiet, nofun, fun _ => ⟨hsp, h ▸ hends⟩⟩

end

end Sys2Proof.Machine

namespace Sys2Proof

open Machine

/-- Settles O28: each form is a jump, whose target is the operand, HL, or the sum of the next address and the displacement. -/
theorem jumps : Obligations.Jumps := by
  intro i s n16 e8 cc holds rel hholds hrel
  have hcond : holds = s.cond cc := by cases cc <;> exact hholds
  rw [← pcNext_add_sext16] at hrel
  subst hcond hrel
  refine ⟨fun h => ⟨hasRow_of_op h rfl rfl, exec_jump h rfl⟩, fun h => ⟨hasRow_of_op h rfl rfl, exec_jump h rfl⟩,
    fun h => ⟨hasRow_of_op h rfl rfl, ?_⟩, fun h => ⟨hasRow_of_op h ?_ rfl, exec_jumpIf h rfl⟩,
    fun h => ⟨hasRow_of_op h ?_ rfl, ?_⟩⟩
  · exact exec_jump h (by rw [h]; rfl)
  · exact congrArg (bytesN16 · n16) (byteXYZ_eq_byteOf 3 cc.code 2)
  · cases cc <;> rfl
  · exact exec_jumpIf h (by rw [h]; rfl)

/-- Settles O29: each form pushes the address of the next instruction, the conditional one only where it is taken. -/
theorem callsAndRestarts : Obligations.CallsAndRestarts := by
  rintro i s _ rfl
  refine ⟨fun n16 h => ⟨hasRow_of_op h rfl rfl, ?_⟩, fun cc n16 h => ⟨hasRow_of_op h ?_ rfl, ?_⟩,
    fun y h => ⟨hasRow_of_op h ?_ rfl, ?_⟩⟩
  · exact exec_call h (by rw [h]; rfl)
  · exact congrArg (bytesN16 · n16) (byteXYZ_eq_byteOf 3 cc.code 4)
  · exact exec_callIf h (by rw [h]; rfl)
  · exact congrArg ([·]) (byteXYZ_eq_byteOf 3 y.val 7)
  · exact exec_call h (by rw [h]; rfl)

/-- Settles O30: each form pops its target, the conditional one only where it is taken; RETI alone writes the master enable, which
is all that a ready source waits for. -/
theorem returns : Obligations.Returns := by
  rintro i s _ rfl
  refine ⟨fun h => ⟨hasRow_of_op h rfl rfl, exec_return h rfl⟩, fun cc h => ⟨hasRow_of_op h ?_ rfl, exec_returnIf h rfl⟩,
    fun h => ⟨hasRow_of_op h rfl rfl, ?_⟩⟩
  · exact congrArg ([·]) (byteXYZ_eq_byteOf 3 cc.code 0)
  · obtain ⟨t, ht, hsp, hregs, hime, hquiet, hgoes⟩ := exec_return (ime := true) h rfl
    exact ⟨t, ht, hsp, hregs, hime, hquiet, hgoes, cpuAct_of_ready hime⟩

end Sys2Proof

/-! PROOFS. The Cpu's own control: NOP, HALT, DI and EI, the wake test and the service of an interrupt, what a step does to the
master enable, the counter and the fault latch, and what runs are made of. -/

namespace Sys2Proof.Machine

/-! ## The Cpu's turn -/

theorem cpuAct_of_disabled {s : State} (h : s.cpu.ime = false) : cpuAct s = exec (fetch s) s :=
  if_neg fun ⟨hime, _⟩ => Bool.false_ne_true (h.symm.trans hime)

/-- The next active cycle after the wake test (`61_scheduler.md` R456). -/
theorem wake_next (s : State) :
    (wake s).cpu.next = if s.cpu.next = none ∧ s.ready ≠ 0#8 then some s.cyc else s.cpu.next := by
  unfold wake
  split <;> rfl

/-- The wake test changes the next active cycle alone. -/
theorem wake_eq_withNext (s : State) : wake s = { s with cpu := { s.cpu with next := (wake s).cpu.next } } := by
  unfold wake
  split <;> rfl

/-- Settles O36: the wake test changes the next active cycle alone, and that under its condition. -/
theorem wakeTest : Obligations.WakeTest := by
  intro s
  rw [wake_eq_withNext, wake_next]
  rfl

/-- A halted Cpu with nothing ready does nothing (`48_system.md` R391). -/
theorem cpuStep_of_asleep {s : State} (hn : s.cpu.next = none) (hr : s.ready = 0#8) : cpuStep s = .next s := by
  have hw : wake s = s := if_neg fun h => h.2 hr
  simp only [cpuStep, hw, hn, reduceCtorEq, if_false]

/-- A halted Cpu acts in the cycle in which a source is ready (R391). -/
theorem cpuStep_of_woken {s : State} (hn : s.cpu.next = none) (hr : s.ready ≠ 0#8) :
    cpuStep s = cpuAct { s with cpu := { s.cpu with next := some s.cyc } } := by
  have hw : wake s = { s with cpu := { s.cpu with next := some s.cyc } } := if_pos ⟨hn, hr⟩
  simp only [cpuStep, hw, if_true]

/-! ## NOP, HALT, DI and EI -/

/-- An act that only moves `pc`, writes the master enable and sets the next active cycle. -/
theorem control_shape (s : State) (ime : Bool) (pc : Addr) (next : Option Nat) {t : State}
    (ht : t = { s with cpu := { s.cpu with ime := ime, pc := pc, next := next } }) :
    t.cpu.ime = ime ∧ t.cpu.sp = s.cpu.sp ∧ RegsBut [] s t ∧ Quiet s t ∧ t.cpu.pc = pc ∧ t.cpu.next = next ∧ t.cyc = s.cyc ∧
      t.fault = s.fault ∧ t.params = s.params := by
  subst ht
  exact ⟨rfl, rfl, fun _ _ => rfl, quiet_of_sameBus ⟨rfl, rfl, rfl, rfl, rfl, rfl, rfl⟩, rfl, rfl, rfl, rfl, rfl⟩

/-- Settles O31: the four only move `pc`, write the master enable and set the next active cycle; what the Cpu does next is its
turn with `ime` off, its turn with `ime` on, and the wake test. -/
theorem nopHaltDiEi : Obligations.NopHaltDiEi := by
  intro i s ime byte next hform
  have hact : HasRow i [byte] 1 1 0 ∧
      exec i s = .next { s with cpu := { s.cpu with ime := ime, pc := s.pcNext i.op, next := next } } ∧
      (i.op = .di → ime = false) ∧ (i.op = .ei → ime = true) ∧ (i.op = .halt → next = none) := by
    obtain ⟨h, rfl, rfl, rfl⟩ | ⟨h, rfl, rfl, rfl⟩ | ⟨h, rfl, rfl, rfl⟩ | ⟨h, rfl, rfl, rfl⟩ := hform <;>
      refine ⟨hasRow_of_op h rfl rfl, ?_⟩ <;> rw [exec_eq_of_op h, h]
    · exact ⟨rfl, nofun, nofun, nofun⟩
    · exact ⟨rfl, fun _ => rfl, nofun, nofun⟩
    · exact ⟨rfl, nofun, fun _ => rfl, nofun⟩
    · exact ⟨rfl, nofun, nofun, fun _ => rfl⟩
  obtain ⟨hrow, ht, hdi, hei, hhalt⟩ := hact
  obtain ⟨hime, hsp, hregs, hquiet, hpc, hnext, hcyc, hfault, hparams⟩ := control_shape s ime (s.pcNext i.op) next rfl
  refine ⟨hrow, _, ht, hime, hsp, hregs, hquiet, hpc, hnext, hcyc, hfault, hparams, fun hi => ?_, fun hi => ?_, fun hi u hu => ?_⟩
  · exact cpuAct_of_disabled (hdi hi)
  · exact cpuAct_of_ready (hei hi)
  · have hn : u.cpu.next = none := hu.trans (hhalt hi)
    exact ⟨cpuStep_of_asleep hn, cpuStep_of_woken hn⟩

/-! ## The service of an interrupt -/

theorem exists_source_index {k : Nat} (h : k < 5) : ∃ i : Source, i.index = k := by
  match k, h with
  | 0, _ => exact ⟨.vblank, rfl⟩
  | 1, _ => exact ⟨.lcdStat, rfl⟩
  | 2, _ => exact ⟨.timer, rfl⟩
  | 3, _ => exact ⟨.serial, rfl⟩
  | 4, _ => exact ⟨.joypad, rfl⟩

/-- The chosen source is the one whose bit is the lowest that is set (`60_exceptions.md` R408). -/
theorem lowestReady_eq_some {ready : Byte} {i : Source} (hi : ready.getLsbD i.index = true)
    (hlow : ∀ j < i.index, ready.getLsbD j = false) : lowestReady ready = some i := by
  have hno : ∀ j < i.index, ¬ready.getLsbD j = true := fun j hj => Bool.not_eq_true _ ▸ hlow j hj
  cases i with
  | vblank => exact if_pos hi
  | lcdStat => exact (if_neg (hno 0 (by decide))).trans (if_pos hi)
  | timer => exact (if_neg (hno 0 (by decide))).trans ((if_neg (hno 1 (by decide))).trans (if_pos hi))
  | serial =>
    exact (if_neg (hno 0 (by decide))).trans
      ((if_neg (hno 1 (by decide))).trans ((if_neg (hno 2 (by decide))).trans (if_pos hi)))
  | joypad =>
    exact (if_neg (hno 0 (by decide))).trans
      ((if_neg (hno 1 (by decide))).trans ((if_neg (hno 2 (by decide))).trans ((if_neg (hno 3 (by decide))).trans (if_pos hi))))

/-- Settles O35: the service of the lowest ready source is its acknowledgement and then a transfer of control that pushes. -/
theorem interruptService : Obligations.InterruptService := by
  rintro s a t k hk rfl hset hlow ha
  obtain ⟨i, rfl⟩ := exists_source_index hk
  have hack : acknowledge i s = a := ha.symm
  have ht : serviceInterrupt s = (push16 a s.cpu.pc).finish i.vector s.params.intCost := by
    simp only [serviceInterrupt, State.ready, lowestReady_eq_some hset hlow, takeInterrupt, hack]
  subst ha
  obtain ⟨hsp, hword, hregs, hime, hends⟩ := pushing_shape (acknowledge i s) s.cpu.pc i.vector s.params.intCost
  rw [ht]
  exact ⟨hime, hsp, hword, hregs, hends, rfl⟩

/-! ## What an act does to the master enable and the fault latch -/

@[simp] theorem stepHl_ime (s : State) (m : R16mem) : (s.stepHl m).cpu.ime = s.cpu.ime := by cases m <;> rfl
@[simp] theorem setR16sp_ime (s : State) (p : R16sp) (v : Addr) : (s.setR16sp p v).cpu.ime = s.cpu.ime := by cases p <;> rfl
@[simp] theorem aluA_ime (s : State) (o : AluOp) (x : Byte) : (s.aluA o x).cpu.ime = s.cpu.ime := by cases o <;> rfl

@[simp] theorem stepHl_fault (s : State) (m : R16mem) : (s.stepHl m).fault = s.fault := by cases m <;> rfl
@[simp] theorem setR16sp_fault (s : State) (p : R16sp) (v : Addr) : (s.setR16sp p v).fault = s.fault := by cases p <;> rfl
@[simp] theorem aluA_fault (s : State) (o : AluOp) (x : Byte) : (s.aluA o x).fault = s.fault := by cases o <;> rfl

/-- Of the instructions DI, EI and RETI write the master enable (`60_exceptions.md` R423). -/
theorem exec_ime {i : Instr} {s t : State} (h : exec i s = .next t) : t.cpu.ime = s.cpu.ime ∨
    (i.op = .di ∧ t.cpu.ime = false) ∨ (i.op = .ei ∧ t.cpu.ime = true) ∨ (i.op = .reti ∧ t.cpu.ime = true) := by
  rw [exec_eq_run] at h
  generalize i.op = o at h ⊢
  cases o with
  | di => cases h; exact .inr (.inl ⟨rfl, rfl⟩)
  | ei => cases h; exact .inr (.inr (.inl ⟨rfl, rfl⟩))
  | reti => cases h; exact .inr (.inr (.inr ⟨rfl, rfl⟩))
  | jpCc | jrCc | callCc | retCc =>
    simp only [Op.run, jumpAbsIf, jumpRelIf, callAbsIf, returnIf] at h
    split at h <;> cases h <;> exact .inl (by simp)
  | _ => cases h; exact .inl (by simp)

/-- STOP and an unused byte latch their fault and do nothing else; no other instruction touches the latch (R402). -/
theorem exec_fault {i : Instr} {s t : State} (h : exec i s = .next t) : t.fault = s.fault ∨
    (i.op = .stop ∧ t = raiseFault .stop s) ∨ ∃ b, i.op = .unused b ∧ t = raiseFault (.illegal b) s := by
  rw [exec_eq_run] at h
  generalize i.op = o at h ⊢
  cases o with
  | stop => cases h; exact .inr (.inl ⟨rfl, rfl⟩)
  | unused b => cases h; exact .inr (.inr ⟨b, rfl, rfl⟩)
  | jpCc | jrCc | callCc | retCc =>
    simp only [Op.run, jumpAbsIf, jumpRelIf, callAbsIf, returnIf] at h
    split at h <;> cases h <;> exact .inl (by simp)
  | reti => cases h; exact .inl rfl
  | _ => cases h; exact .inl (by simp)

theorem serviceInterrupt_ime {s : State} (hr : s.ready ≠ 0#8) : (serviceInterrupt s).cpu.ime = false := by
  obtain ⟨i, hi⟩ := lowestReady_of_ready hr
  simp only [serviceInterrupt, hi, takeInterrupt, finish_ime, push16_ime, acknowledge_ime]

@[simp] theorem serviceInterrupt_fault (s : State) : (serviceInterrupt s).fault = s.fault := by
  unfold serviceInterrupt
  split
  · simp only [takeInterrupt, finish_fault, push16_fault, acknowledge_fault]
  · rfl

@[simp] theorem serviceInterrupt_cyc (s : State) : (serviceInterrupt s).cyc = s.cyc := by
  unfold serviceInterrupt
  split
  · simp only [takeInterrupt, finish_cyc, push16_cyc, acknowledge_cyc]
  · rfl

/-! ## What a step does to them, and to the counter -/

theorem beforeCpu_cyc {s w : State} (h : BeforeCpu s w) : w.cyc = s.cyc := by
  rw [beforeCpu_iff.mp h, wake_cyc, devicesStep_cyc]

theorem beforeCpu_fault {s w : State} (h : BeforeCpu s w) : w.fault = s.fault := by
  rw [beforeCpu_iff.mp h, wake_fault, devicesStep_fault]

theorem beforeCpu_ime {s w : State} (h : BeforeCpu s w) : w.cpu.ime = s.cpu.ime := by
  rw [beforeCpu_iff.mp h, wake_ime, devicesStep_ime]

/-- Settles O37: neither the devices nor the counter touch the master enable; the Cpu's turn is a service or an instruction. -/
theorem imeChanges : Obligations.ImeChanges := by
  refine ⟨rfl, fun s t w hs hw hne => ?_⟩
  obtain ⟨-, u, rfl, hcases⟩ := step_cases hs (beforeCpu_iff.mp hw)
  rw [advance_cpu] at hne ⊢
  rw [← beforeCpu_ime hw] at hne ⊢
  rw [← beforeCpu_cyc hw]
  obtain ⟨-, rfl⟩ | ⟨hn, hime, hr, rfl⟩ | ⟨hn, -, he⟩ := hcases
  · exact absurd rfl hne
  · exact ⟨hn, .inl ⟨hime, hr, serviceInterrupt_ime hr⟩⟩
  · exact ⟨hn, .inr ((exec_ime he).resolve_left hne)⟩

theorem advance_of_running {s : State} (h : s.fault = none) : advance s = { s with cyc := s.cyc + 1 } := if_pos h

theorem advance_of_latched {s : State} (h : s.fault ≠ none) : advance s = s := if_neg h

/-- Settles O38: the Cpu's turn keeps the counter and finds no fault latched, and only STOP and an unused byte latch one. -/
theorem counterOrFault : Obligations.CounterOrFault := by
  intro s t w hs hw
  obtain ⟨hf, u, rfl, hcases⟩ := step_cases hs (beforeCpu_iff.mp hw)
  have hwc : w.cyc = s.cyc := beforeCpu_cyc hw
  have hwf : w.fault = none := (beforeCpu_fault hw).trans hf
  have running : ∀ {u : State}, u.fault = w.fault → u.cyc = w.cyc → (advance u).fault = none ∧ (advance u).cyc = s.cyc + 1 := by
    intro u huf huc
    rw [advance_of_running (huf.trans hwf)]
    exact ⟨huf.trans hwf, congrArg (· + 1) (huc.trans hwc)⟩
  have latched : ∀ k, advance (raiseFault k w) = { w with fault := some k } := fun k => advance_of_latched nofun
  obtain ⟨-, rfl⟩ | ⟨-, -, -, rfl⟩ | ⟨hn, -, he⟩ := hcases
  · exact .inl (running rfl rfl)
  · exact .inl (running (serviceInterrupt_fault w) (serviceInterrupt_cyc w))
  · rw [hwc] at hn
    obtain hu | ⟨hop, rfl⟩ | ⟨b, hop, rfl⟩ := exec_fault he
    · exact .inl (running hu (exec_cyc he))
    · rw [latched]
      exact .inr ⟨hwc, hn, rfl, .inl ⟨hop, rfl⟩⟩
    · rw [latched]
      exact .inr ⟨hwc, hn, rfl, .inr ⟨b, hop, rfl⟩⟩

/-- The Cpu's turn after what precedes it (`61_scheduler.md` R456). -/
theorem cpuStep_of_before {s w : State} (hw : BeforeCpu s w) :
    cpuStep (devicesStep s) = if w.cpu.next = some s.cyc then cpuAct w else .next w := by
  rw [cpuStep, ← beforeCpu_iff.mp hw, beforeCpu_cyc hw]

theorem step_of_turn {s u : State} (hf : s.fault = none) (h : cpuStep (devicesStep s) = .next u) : step s = .next (advance u) := by
  simp only [step, hf, driverStep, h]

/-- Settles O34: the Cpu's turn is a service or nothing, and neither latches a fault. -/
theorem stepServicesOrIdles : Obligations.StepServicesOrIdles := by
  intro s w hf hw
  have hwf : w.fault = none := (beforeCpu_fault hw).trans hf
  rw [← beforeCpu_cyc hw]
  refine ⟨fun hn hime hr => ?_, fun hn => ?_⟩
  · have hturn : cpuStep (devicesStep s) = .next (serviceInterrupt w) := by
      rw [cpuStep_of_before hw, ← beforeCpu_cyc hw, if_pos hn, cpuAct_of_ready hime hr]
    rw [step_of_turn hf hturn, advance_of_running ((serviceInterrupt_fault w).trans hwf), serviceInterrupt_cyc]
  · have hturn : cpuStep (devicesStep s) = .next w := by
      rw [cpuStep_of_before hw, ← beforeCpu_cyc hw, if_neg hn]
    rw [step_of_turn hf hturn, advance_of_running hwf]

/-! ## Steps and runs -/

theorem step_of_latched {s : State} {k : Fault} (h : s.fault = some k) : step s = .fault k := by
  rw [step, h]

theorem cpuAct_isNext (s : State) : ∃ t, cpuAct s = .next t := by
  unfold cpuAct
  split
  · exact ⟨_, rfl⟩
  · exact exec_isNext _ _

theorem cpuStep_isNext (s : State) : ∃ t, cpuStep s = .next t := by
  unfold cpuStep
  dsimp only
  split
  · exact cpuAct_isNext _
  · exact ⟨_, rfl⟩

theorem step_isNext {s : State} (h : s.fault = none) : ∃ t, step s = .next t := by
  obtain ⟨t, ht⟩ := cpuStep_isNext (devicesStep s)
  exact ⟨advance t, step_of_turn h ht⟩

/-- A step advances the counter by one, or it latches a fault and keeps the counter (`61_scheduler.md` R452, R462). -/
theorem step_cyc {s t : State} (h : step s = .next t) :
    (t.fault = none ∧ t.cyc = s.cyc + 1) ∨ (t.fault ≠ none ∧ t.cyc = s.cyc) := by
  obtain hrun | ⟨hcyc, -, -, ⟨-, hf⟩ | ⟨b, -, hf⟩⟩ := counterOrFault s t _ h (beforeCpu_iff.mpr rfl)
  · exact .inl hrun
  · exact .inr ⟨hf ▸ nofun, hcyc⟩
  · exact .inr ⟨hf ▸ nofun, hcyc⟩

theorem runFor_of_latched {s : State} (h : s.fault ≠ none) (k : Nat) : runFor k s = .next s := by
  cases k with
  | zero => rfl
  | succ k =>
    obtain ⟨f, hf⟩ := Option.ne_none_iff_exists'.mp h
    simp only [runFor, hf]

theorem runFor_of_step {s t : State} (h : step s = .next t) (k : Nat) : runFor (k + 1) s = runFor k t := by
  have hf : s.fault = none := (step_cases h rfl).1
  have hd : driverStep s = .next t := by simpa only [step, hf] using h
  simp only [runFor, hf, hd]

/-- A run takes all its steps, or a fault ends it before (`61_scheduler.md` R451). -/
theorem runFor_reaches {s : State} (h : s.fault = none) (k : Nat) : ∃ t, runFor k s = .next t ∧
    ((t.fault = none ∧ t.cyc = s.cyc + k) ∨ (t.fault ≠ none ∧ t.cyc < s.cyc + k)) := by
  induction k generalizing s with
  | zero => exact ⟨s, rfl, .inl ⟨h, rfl⟩⟩
  | succ k ih =>
    obtain ⟨u, hu⟩ := step_isNext h
    rw [runFor_of_step hu]
    obtain ⟨huf, huc⟩ | ⟨huf, huc⟩ := step_cyc hu
    · have hsum : s.cyc + (k + 1) = u.cyc + k := by omega
      rw [hsum]
      exact ih huf
    · exact ⟨u, runFor_of_latched huf k, .inr ⟨huf, by omega⟩⟩

/-- A run is safe exactly if it ends with no fault latched. -/
theorem safeFor_iff_runFor (k : Nat) (s : State) : safeFor k s ↔ ∃ t, runFor k s = .next t ∧ t.fault = none := by
  induction k generalizing s with
  | zero => simp [runFor]
  | succ k ih =>
    by_cases hf : s.fault = none
    · obtain ⟨u, hu⟩ := step_isNext hf
      rw [safeFor_of_step hu, runFor_of_step hu, ih]
    · refine iff_of_false (fun h => hf (safeFor_running h)) ?_
      rintro ⟨t, ht, htf⟩
      rw [runFor_of_latched hf] at ht
      cases ht
      exact hf htf

theorem runUntil_add (k : Nat) (s : State) : runUntil (s.cyc + k) s = runFor k s := by
  rw [runUntil, if_neg (by omega), Nat.add_sub_cancel_left]

theorem runUntil_of_le {n : Nat} {s : State} (h : s.cyc ≤ n) : runUntil n s = runFor (n - s.cyc) s := if_neg (Nat.not_lt.mpr h)

/-- Settles O39: a running machine steps, a stopped one answers its latch, and `safeFor` is the run of `runUntil`. -/
theorem stopsExactlyWhenLatched : Obligations.StopsExactlyWhenLatched := by
  intro s
  have never : s.fault ≠ none → ∀ n, ¬safeFor n s := fun hf n h => hf (safeFor_running h)
  refine ⟨fun k => ⟨fun h => ?_, step_of_latched⟩, fun r h => ?_, step_isNext, fun n => ?_, fun t ht htf n hn h => ?_, never⟩
  · cases hf : s.fault with
    | none => obtain ⟨t, ht⟩ := step_isNext hf; rw [ht] at h; cases h
    | some f => rw [step_of_latched hf] at h; cases h; rfl
  · cases hf : s.fault with
    | none => obtain ⟨t, ht⟩ := step_isNext hf; rw [ht] at h; cases h
    | some f => rw [step_of_latched hf] at h; cases h
  · rw [runUntil_add]
    exact safeFor_iff_runFor n s
  · obtain ⟨m, rfl⟩ := Nat.exists_eq_succ_of_ne_zero (Nat.ne_of_gt hn)
    exact htf (safeFor_running ((safeFor_of_step ht m).mp h))

/-- One step of a run to cycle n, a fault of the step included. -/
theorem runUntil_of_step {n : Nat} {s t : State} (hn : s.cyc < n) (h : step s = .next t) : runUntil n s = runUntil n t := by
  obtain ⟨k, rfl⟩ := Nat.exists_eq_add_of_lt hn
  rw [Nat.add_assoc, runUntil_add, runFor_of_step h]
  obtain ⟨-, hc⟩ | ⟨hf, hc⟩ := step_cyc h
  · rw [runUntil_of_le (by omega), show s.cyc + (k + 1) - t.cyc = k by omega]
  · rw [runUntil_of_le (by omega), runFor_of_latched hf, runFor_of_latched hf]

/-- Settles O44: the steps of `runFor`, counted by the cycles that are left. -/
theorem runUntilReaches : Obligations.RunUntilReaches := by
  intro s n
  refine ⟨fun h => if_pos h, runUntil_add 0 s, fun hf hn => ?_, fun t => runUntil_of_step, fun hn => ?_⟩
  · rw [runUntil_of_le hn, runFor_of_latched hf]
  · rw [runUntil_of_le hn]
    by_cases hf : s.fault = none
    · obtain ⟨t, ht, hend⟩ := runFor_reaches hf (n - s.cyc)
      rw [Nat.add_sub_cancel' hn] at hend
      obtain ⟨htf, htc⟩ | ⟨htf, htc⟩ := hend
      · exact ⟨t, ht, fun _ => htc, fun _ h => absurd htf h⟩
      · exact ⟨t, ht, fun h => absurd h htf, fun _ _ => htc⟩
    · exact ⟨s, runFor_of_latched hf _, fun h => absurd h hf, fun h => absurd h hf⟩

/-- A run goes on where its first part ended. -/
theorem runFor_add {j : Nat} {s t : State} (h : runFor j s = .next t) (k : Nat) : runFor (j + k) s = runFor k t := by
  induction j generalizing s with
  | zero => cases h; rw [Nat.zero_add]
  | succ j ih =>
    obtain ⟨hf, rfl⟩ | ⟨u, hu, h⟩ := runFor_succ_cases h
    · rw [runFor_of_latched hf, runFor_of_latched hf]
    · rw [Nat.succ_add, runFor_of_step hu, ih h]

theorem runUntil_ends {n : Nat} {s t : State} (hn : s.cyc ≤ n) (h : runUntil n s = .next t) :
    t.cyc = n ∨ (t.fault ≠ none ∧ t.cyc ≤ n) := by
  by_cases hf : s.fault = none
  · obtain ⟨-, -, -, -, hreach⟩ := runUntilReaches s n
    obtain ⟨u, hu, hend, hlatched⟩ := hreach hn
    obtain rfl := Host.Outcome.next.inj (h.symm.trans hu)
    by_cases htf : t.fault = none
    · exact .inl (hend htf)
    · exact .inr ⟨htf, Nat.le_of_lt (hlatched hf htf)⟩
  · rw [runUntil_of_le hn, runFor_of_latched hf] at h
    cases h
    exact .inr ⟨hf, hn⟩

/-- Settles O45: the first run ends at cycle a, from where the second takes the steps that are left, or with a fault latched, which
ends every longer run too. -/
theorem runsCompose : Obligations.RunsCompose := by
  intro s t a b hsa hab h
  have hb : runUntil b s = runFor (b - a) t := by
    rw [runUntil_of_le hsa] at h
    rw [runUntil_of_le (Nat.le_trans hsa hab), ← runFor_add h, show a - s.cyc + (b - a) = b - s.cyc by omega]
  rw [hb]
  obtain rfl | ⟨hf, hle⟩ := runUntil_ends hsa h
  · exact runUntil_of_le hab
  · rw [runUntil_of_le (Nat.le_trans hle hab), runFor_of_latched hf, runFor_of_latched hf]

end Sys2Proof.Machine

/-! PROOFS. The Timer: what one step does, the falls of the selected bit over one period, and the bus accesses to its registers;
and one step of the DMA engine. -/

namespace Sys2Proof.Machine

/-! ## Counting a falling edge -/

/-- TIMA counts a falling edge once, with the reload and the request of an overflow (`62_timer.md` R475, R476). -/
theorem incIfFalling_eq {s0 falls : Bool} {s : State} (h : falls = (s0 && !s.timer.signal)) : incIfFalling s0 s = { s with
    timer := { s.timer with
      tima := if falls then (if s.timer.tima = 0xFF#8 then s.timer.tma else s.timer.tima + 1#8) else s.timer.tima }
    cpu := { s.cpu with
      iflag := if falls then (if s.timer.tima = 0xFF#8 then s.cpu.iflag ||| 0x04#8 else s.cpu.iflag) else s.cpu.iflag } } := by
  unfold incIfFalling
  rw [← h]
  cases falls with
  | false => rfl
  | true =>
    by_cases hfull : s.timer.tima = 0xFF#8
    · simp only [hfull, if_true]; rfl
    · simp only [hfull, if_true, if_false]

theorem selBit_eq (tac : Byte) :
    selBit tac = if tac &&& 3#8 = 0#8 then 9 else if tac &&& 3#8 = 1#8 then 3 else if tac &&& 3#8 = 2#8 then 5 else 7 := by
  revert tac
  decide

/-- With TAC as it is, the signal falls where the observed bit does. -/
theorem Timer.signal_falls (on old new : Bool) : ((on && old) && !(on && new)) = (on && old && !new) := by
  cases on <;> simp

/-- The Timer's step (R473): the counter moves by 4, and TIMA counts where the observed bit falls. -/
theorem timerStep_eq {s : State} {falls : Bool} (h : falls = (s.timer.tac.getLsbD 2 &&
      s.timer.counter.getLsbD (selBit s.timer.tac) && !(s.timer.counter + 4#16).getLsbD (selBit s.timer.tac))) :
    timerStep s = { s with
      timer := { s.timer with
        counter := s.timer.counter + 4#16
        tima := if falls then (if s.timer.tima = 0xFF#8 then s.timer.tma else s.timer.tima + 1#8) else s.timer.tima }
      cpu := { s.cpu with
        iflag := if falls then (if s.timer.tima = 0xFF#8 then s.cpu.iflag ||| 0x04#8 else s.cpu.iflag) else s.cpu.iflag } } :=
  incIfFalling_eq (s := { s with timer := { s.timer with counter := s.timer.counter + 4#16 } })
    (h.trans (Timer.signal_falls _ _ _).symm)

/-! ## One period -/

/-- The selected bit is bit 3, 5, 7 or 9, and its period in cycles is a quarter of 2^(b + 1) (R477). -/
theorem selBit_period (tac : Byte) : (selBit tac = 3 ∨ selBit tac = 5 ∨ selBit tac = 7 ∨ selBit tac = 9) ∧
    2 ^ (selBit tac + 1) =
      4 * (if tac &&& 3#8 = 0#8 then 256 else if tac &&& 3#8 = 1#8 then 4 else if tac &&& 3#8 = 2#8 then 16 else 64) := by
  revert tac
  decide

section
variable {b : Nat} (hb : b = 3 ∨ b = 5 ∨ b = 7 ∨ b = 9)
include hb

/-- A step of 4 makes bit b fall exactly if the bits up to b overflow. -/
theorem getLsbD_falls (x : BitVec 16) :
    (x.getLsbD b && !(x + 4#16).getLsbD b) = decide (2 ^ (b + 1) ≤ x.toNat % 2 ^ (b + 1) + 4) := by
  have hbit : ∀ y : BitVec 16, y.getLsbD b = decide (y.toNat / 2 ^ b % 2 = 1) := fun y => Nat.testBit_eq_decide_div_mod_eq
  have hx := x.isLt
  rw [hbit, hbit, ← decide_not, ← Bool.decide_and, BitVec.toNat_add, BitVec.toNat_ofNat]
  refine decide_eq_decide.mpr ?_
  rcases hb with rfl | rfl | rfl | rfl <;> omega

/-- How often the bits up to b have overflowed after each of the steps of one period. -/
theorem overflows_succ (c : BitVec 16) {k : Nat} (hk : 4 * (k + 1) ≤ 2 ^ (b + 1)) :
    (c.toNat % 2 ^ (b + 1) + 4 * (k + 1)) / 2 ^ (b + 1) =
      if 2 ^ (b + 1) ≤ (c + BitVec.ofNat 16 (4 * k)).toNat % 2 ^ (b + 1) + 4 then 1
      else (c.toNat % 2 ^ (b + 1) + 4 * k) / 2 ^ (b + 1) := by
  have hc := c.isLt
  rw [BitVec.toNat_add, BitVec.toNat_ofNat]
  split <;> rcases hb with rfl | rfl | rfl | rfl <;> omega

theorem overflows_of_falls (c : BitVec 16) {k : Nat} (hk : 4 * (k + 1) ≤ 2 ^ (b + 1))
    (hfalls : 2 ^ (b + 1) ≤ (c + BitVec.ofNat 16 (4 * k)).toNat % 2 ^ (b + 1) + 4) :
    (c.toNat % 2 ^ (b + 1) + 4 * k) / 2 ^ (b + 1) = 0 := by
  have hc := c.isLt
  rw [BitVec.toNat_add, BitVec.toNat_ofNat] at hfalls
  rcases hb with rfl | rfl | rfl | rfl <;> omega

end

/-- The step of a Timer that is on, in terms of that overflow. -/
theorem timerStep_of_on {s : State} {b : Nat} (hb : b = selBit s.timer.tac) (hon : s.timer.tac.getLsbD 2 = true) :
    timerStep s = if 2 ^ (b + 1) ≤ s.timer.counter.toNat % 2 ^ (b + 1) + 4 then { s with
        timer := { s.timer with
          counter := s.timer.counter + 4#16
          tima := if s.timer.tima = 0xFF#8 then s.timer.tma else s.timer.tima + 1#8 }
        cpu := { s.cpu with iflag := if s.timer.tima = 0xFF#8 then s.cpu.iflag ||| 0x04#8 else s.cpu.iflag } }
      else { s with timer := { s.timer with counter := s.timer.counter + 4#16 } } := by
  have hsel : b = 3 ∨ b = 5 ∨ b = 7 ∨ b = 9 := hb ▸ (selBit_period s.timer.tac).1
  rw [timerStep_eq rfl, hon, Bool.true_and, ← hb, getLsbD_falls hsel]
  by_cases h : 2 ^ (b + 1) ≤ s.timer.counter.toNat % 2 ^ (b + 1) + 4
  · rw [decide_eq_true h, if_pos h]
    rfl
  · rw [decide_eq_false h, if_neg h]
    rfl

/-- Within one period TIMA has counted the overflows of the bits up to the selected one, and nothing was requested. -/
theorem repeat_timerStep {s : State} {b k : Nat} (hb : b = selBit s.timer.tac) (hon : s.timer.tac.getLsbD 2 = true)
    (hfull : s.timer.tima ≠ 0xFF#8) (hk : 4 * k ≤ 2 ^ (b + 1)) : Nat.repeat timerStep k s = { s with
      timer := { s.timer with
        counter := s.timer.counter + BitVec.ofNat 16 (4 * k)
        tima := s.timer.tima + BitVec.ofNat 8 ((s.timer.counter.toNat % 2 ^ (b + 1) + 4 * k) / 2 ^ (b + 1)) } } := by
  have hsel : b = 3 ∨ b = 5 ∨ b = 7 ∨ b = 9 := hb ▸ (selBit_period s.timer.tac).1
  induction k with
  | zero =>
    have hz : s.timer.counter.toNat % 2 ^ (b + 1) / 2 ^ (b + 1) = 0 :=
      Nat.div_eq_of_lt (Nat.mod_lt _ (Nat.two_pow_pos _))
    simp [Nat.repeat, hz]
  | succ k ih =>
    have hnext : s.timer.counter + BitVec.ofNat 16 (4 * k) + 4#16 = s.timer.counter + BitVec.ofNat 16 (4 * (k + 1)) := by
      rw [BitVec.add_assoc, Nat.mul_succ, ← BitVec.ofNat_add]
    rw [Nat.repeat, ih (by omega)]
    refine (timerStep_of_on (b := b) ?_ ?_).trans ?_
    · exact hb
    · exact hon
    simp only [hnext, overflows_succ hsel _ hk]
    split
    case isTrue hfalls => simp [overflows_of_falls hsel _ hk hfalls, hfull]
    case isFalse => rfl

/-- Settles O47: over the whole period the bits up to the selected one overflow exactly once. -/
theorem timerPeriod : Obligations.TimerPeriod := by
  intro s p hon hfull hp
  have hperiod : 2 ^ (selBit s.timer.tac + 1) = 4 * p := hp ▸ (selBit_period s.timer.tac).2
  have hpos : 0 < 4 * p := hperiod ▸ Nat.two_pow_pos _
  have hone : (s.timer.counter.toNat % (4 * p) + 4 * p) / (4 * p) = 1 := by
    rw [Nat.add_div_right _ hpos, Nat.div_eq_of_lt (Nat.mod_lt _ hpos)]
  rw [repeat_timerStep rfl hon hfull (Nat.le_of_eq hperiod.symm), hperiod, hone]
  exact ⟨rfl, rfl⟩

/-! ## The registers on the bus -/

theorem timerClaims_none {a : Addr} (h : a.toNat < 0xFF04 ∨ 0xFF07 < a.toNat) : participantClaims .timer a = false := by
  rw [participantClaims, timerRegAt_none h, Option.isSome_none]

/-- Settles O48: the write of each register is `writeTimerReg`, where `incIfFalling` compares the signal before and after. -/
theorem timerWrites : Obligations.TimerWrites := by
  rintro s v _ _ falls rfl rfl hfalls
  refine ⟨fun hall => ⟨?_, ?_, ?_, ?_, ?_, ?_, ?_, ?_⟩, fun a ha => ?_⟩
  · refine (busWrite_timerReg (hall .div) v).trans (incIfFalling_eq (s := { s with timer := { s.timer with counter := 0#16 } }) ?_)
    simp [Timer.signal]
  · exact (busWrite_timerReg (hall .tac) v).trans (incIfFalling_eq (s := { s with timer := { s.timer with tac := v } }) hfalls)
  · exact busWrite_timerReg (hall .tima) v
  · exact busWrite_timerReg (hall .tma) v
  · exact busRead_timerReg_claimed (hall .div)
  · exact busRead_timerReg_claimed (hall .tima)
  · exact busRead_timerReg_claimed (hall .tma)
  · exact busRead_timerReg_claimed (hall .tac)
  · have hno := timerClaims_none ha
    exact ⟨participantRead_unclaimed hno s, participantWrite_unclaimed hno s v⟩

end Sys2Proof.Machine

namespace Sys2Proof

open Machine

/-- Settles O46: the step moves the counter, and `incIfFalling` counts where the observed bit falls. -/
theorem timerStep : Obligations.TimerStep := by
  rintro s _ b falls rfl hb hfalls
  rw [← selBit_eq] at hb
  rw [timerStep_eq (hb ▸ hfalls)]
  refine ⟨rfl, ?_⟩
  cases falls with
  | false => rfl
  | true => by_cases hfull : s.timer.tima = 0xFF#8 <;> simp [hfull]

/-! ## The DMA engine -/

/-- The source of byte k is k places above the page that DMA names (`63_lcd_controller.md` R540). -/
theorem dmaSource_eq (l : Lcd) : dmaSource l = BitVec.ofNat 16 (256 * l.dma.toNat + l.dmaIndex) := by
  have hpage : make16 l.dma 0#8 = BitVec.ofNat 16 (256 * l.dma.toNat) := by
    generalize l.dma = d
    revert d
    decide
  rw [dmaSource, hpage, BitVec.ofNat_add]

/-- Settles O49: below 160 the step stores the byte of `dmaSource` in `oam`, which is canonical; at 160 it does nothing. -/
theorem dmaStep : Obligations.DmaStep := by
  intro s
  refine ⟨fun hi a ha hm => ?_, fun hi => if_neg (Nat.not_lt.mpr hi)⟩
  have hd : Machine.dmaStep s = { s with lcd := { s.lcd with
      oam := s.lcd.oam.store s.lcd.dmaIndex (busRead s a), dmaIndex := s.lcd.dmaIndex + 1 } } := by
    rw [ha, ← dmaSource_eq]
    exact if_pos hi
  rw [hd]
  refine ⟨fun k => ?_, rfl⟩
  split
  case isTrue hk => rw [hk]; exact Memory.wf_load_store (memoryWf_lcd hm).2 _ _
  case isFalse hk => exact Memory.load_store_ne _ _ hk

end Sys2Proof

/-! PROOFS. The LCD controller's registers and its scanline machine, with the requests that each makes, and the Joypad. -/

namespace Sys2Proof.Machine

/-! ## STAT -/

/-- STAT with the mode bits of m (`63_lcd_controller.md` R514). -/
def modeStat (m : Mode) (v : Byte) : Byte := (v &&& 0xFC#8) ||| m.code

theorem Lcd.withMode_eq (l : Lcd) (m : Mode) : l.withMode m = { l with stat := modeStat m l.stat } := rfl

theorem modeStat_and_FC (m : Mode) (v : Byte) : modeStat m v &&& 0xFC#8 = v &&& 0xFC#8 := by
  revert v
  cases m <;> decide

theorem modeStat_and_F8 (m : Mode) (v : Byte) : modeStat m v &&& 0xF8#8 = v &&& 0xF8#8 := by
  revert v
  cases m <;> decide

/-- A new mode leaves the comparison and the enable bits alone. -/
theorem getLsbD_modeStat {m : Mode} {i : Nat} (hi : 2 ≤ i) (v : Byte) : (modeStat m v).getLsbD i = v.getLsbD i := by
  have hmask : ∀ i : Fin 8, 2 ≤ i.val → m.code.getLsbD i.val = false ∧ (0xFC#8).getLsbD i.val = true := by
    cases m <;> decide
  obtain h8 | h8 := Nat.lt_or_ge i 8
  · obtain ⟨hcode, hkeep⟩ := hmask ⟨i, h8⟩ hi
    rw [modeStat, BitVec.getLsbD_or, BitVec.getLsbD_and, hcode, hkeep, Bool.and_true, Bool.or_false]
  · rw [BitVec.getLsbD_of_ge _ i h8, BitVec.getLsbD_of_ge _ i h8]

/-- STAT with the comparison in bit 2 (R499). -/
theorem bitSet_two_eq (v : Byte) (b : Bool) : bitSet v 2 b = (v &&& 0xFB#8) ||| if b then 0x04#8 else 0#8 := by
  revert v b
  decide

theorem getLsbD_bitSet_ne {w i k : Nat} (hi : i < w) (hk : k ≠ i) (v : BitVec w) (b : Bool) : (bitSet v i b).getLsbD k = v.getLsbD k := by
  cases b with
  | true => rw [getLsbD_bitSet_true hi, decide_eq_false hk, Bool.or_false]
  | false => rw [getLsbD_bitSet_false hi, decide_eq_true hk, Bool.and_true]

theorem getLsbD_bitSet_self {w i : Nat} (hi : i < w) (v : BitVec w) (b : Bool) : (bitSet v i b).getLsbD i = b := by
  cases b with
  | true => rw [getLsbD_bitSet_true hi, decide_eq_true rfl, Bool.or_true]
  | false => rw [getLsbD_bitSet_false hi, decide_eq_false (not_not_intro rfl), Bool.and_false]

theorem bitSet_two_and_FB (v : Byte) (b : Bool) : bitSet v 2 b &&& 0xFB#8 = v &&& 0xFB#8 := by
  revert v b
  decide

theorem bitSet_two_and_F8 (v : Byte) (b : Bool) : bitSet v 2 b &&& 0xF8#8 = v &&& 0xF8#8 := by
  revert v b
  decide

/-! ## Requests -/

theorem requestIf_eq (c : Bool) (i : Source) (s : State) :
    requestIf c i s = { s with cpu := { s.cpu with iflag := s.cpu.iflag ||| if c = true then i.bit else 0#8 } } := by
  cases c with
  | true => rfl
  | false => simp

/-- The comparison of LY and LYC, and its request (R499). -/
theorem compareLy_eq (s : State) : compareLy s = { s with
    lcd := { s.lcd with stat := bitSet s.lcd.stat 2 (s.lcd.ly == s.lcd.lyc) }
    cpu := { s.cpu with
      iflag := s.cpu.iflag ||| if s.lcd.ly = s.lcd.lyc ∧ s.lcd.stat.getLsbD 6 = true then 0x02#8 else 0#8 } } := by
  simp only [compareLy, requestIf_eq, Bool.and_eq_true, beq_iff_eq]
  rfl

/-- A change of LY (R515). -/
theorem setLy_eq (v : Byte) (s : State) : setLy v s = { s with
    lcd := { s.lcd with ly := v, stat := bitSet s.lcd.stat 2 (v == s.lcd.lyc) }
    cpu := { s.cpu with
      iflag := s.cpu.iflag ||| if v = s.lcd.lyc ∧ s.lcd.stat.getLsbD 6 = true then 0x02#8 else 0#8 } } := compareLy_eq _

theorem Lcd.modeInterrupt_withMode (l : Lcd) (m : Mode) : (l.withMode m).modeInterrupt m = l.modeInterrupt m := by
  cases m with
  | m3 => rfl
  | m0 | m1 | m2 => exact getLsbD_modeStat (by decide) _

/-- The entry into a mode, with its requests (R514). -/
theorem enterMode_eq (m : Mode) (s : State) : enterMode m s = { s with
    lcd := { s.lcd with stat := modeStat m s.lcd.stat }
    cpu := { s.cpu with
      iflag := s.cpu.iflag ||| (if m = .m1 then 0x01#8 else 0#8) ||| if s.lcd.modeInterrupt m = true then 0x02#8 else 0#8 } } := by
  simp only [enterMode, requestIf_eq, Lcd.modeInterrupt_withMode, beq_iff_eq]
  rfl

theorem Lcd.modeInterrupt_iff (l : Lcd) (m : Mode) : l.modeInterrupt m = true ↔ (m = .m0 ∧ l.stat.getLsbD 3 = true) ∨
    (m = .m1 ∧ l.stat.getLsbD 4 = true) ∨ (m = .m2 ∧ l.stat.getLsbD 5 = true) := by
  cases m <;> simp [Lcd.modeInterrupt]

/-- Settles O51: `enterMode` and `setLy` write STAT, LY and IF as their equations say. -/
theorem scanlineRequests : Obligations.ScanlineRequests := by
  intro s m v
  rw [enterMode_eq, setLy_eq]
  refine ⟨⟨Lcd.mode_withMode s.lcd m, modeStat_and_FC m _, ?_⟩, rfl, ?_, bitSet_two_and_FB _ _, rfl⟩
  · simp only [Lcd.modeInterrupt_iff]
  · exact getLsbD_bitSet_self (by decide) _ _

/-! ## The actions of the scanline machine -/

/-- s with the registers that the scanline machine writes, and IF. -/
def State.scanned (s : State) (stat ly : Byte) (next : Option Nat) (lines : List (LcdLine 160)) (winY : Nat) (image : LcdImage)
    (iflag : Byte) : State :=
  { s with
    lcd := { s.lcd with stat := stat, ly := ly, next := next, lines := lines, winY := winY, image := image }
    cpu := { s.cpu with iflag := iflag } }

/-- STAT after a change of LY to v. -/
def Lcd.lyStat (l : Lcd) (v : Byte) : Byte := bitSet l.stat 2 (v == l.lyc)

/-- What a change of LY to v requests. -/
def Lcd.lyRequest (l : Lcd) (v : Byte) : Byte := if v = l.lyc ∧ l.stat.getLsbD 6 = true then 2#8 else 0#8

/-- What the entry into a mode requests besides VBLANK. -/
def Lcd.modeRequest (l : Lcd) (m : Mode) : Byte := if l.modeInterrupt m = true then 2#8 else 0#8

/-- The comparison leaves the enable bits alone. -/
theorem Lcd.modeRequest_lyStat (l : Lcd) (v w : Byte) (m : Mode) :
    Lcd.modeRequest { l with ly := w, stat := l.lyStat v } m = l.modeRequest m := by
  have henable : Lcd.modeInterrupt { l with ly := w, stat := l.lyStat v } m = l.modeInterrupt m := by
    cases m with
    | m3 => rfl
    | m0 | m1 | m2 => exact getLsbD_bitSet_ne (by decide) (by decide) _ _
  rw [Lcd.modeRequest, henable, Lcd.modeRequest]

section
variable {s : State}

/-- The change of LY and the entry into the next mode (`63_lcd_controller.md` R513). -/
theorem enterMode_setLy (m : Mode) (v : Byte) : enterMode m (setLy v s) = s.scanned (modeStat m (s.lcd.lyStat v)) v s.lcd.next
    s.lcd.lines s.lcd.winY s.lcd.image
    (s.cpu.iflag ||| s.lcd.lyRequest v ||| (if m = .m1 then 1#8 else 0#8) ||| s.lcd.modeRequest m) := by
  rw [enterMode_eq, setLy_eq, ← Lcd.modeRequest_lyStat s.lcd v v m]
  rfl

theorem lcdAct_of_m2 (h : s.lcd.mode = .m2) :
    lcdAct s = s.scanned (modeStat .m3 s.lcd.stat) s.lcd.ly (some (s.cyc + s.params.mode3Cycles))
      (s.lcd.lines ++ [(s.lcd.computeLine s.lcd.ly.toNat).1]) (s.lcd.computeLine s.lcd.ly.toNat).2 s.lcd.image s.cpu.iflag := by
  simp only [lcdAct, h, enterMode_eq, reduceCtorEq, if_false, Lcd.modeInterrupt, Bool.false_eq_true, BitVec.or_zero]
  rfl

theorem lcdAct_of_m3 (h : s.lcd.mode = .m3) :
    lcdAct s = s.scanned (modeStat .m0 s.lcd.stat) s.lcd.ly (some (s.cyc + s.params.mode0Cycles)) s.lcd.lines s.lcd.winY
      s.lcd.image (s.cpu.iflag ||| s.lcd.modeRequest .m0) := by
  simp only [lcdAct, h, enterMode_eq, reduceCtorEq, if_false, BitVec.or_zero]
  rfl

theorem lcdAct_of_m0_last (h : s.lcd.mode = .m0) (hy : s.lcd.ly = 143#8) :
    lcdAct s = s.scanned (modeStat .m1 (s.lcd.lyStat 144#8)) 144#8 (some (s.cyc + s.params.vblankLineCycles)) s.lcd.lines
      s.lcd.winY { lines := s.lcd.lines } (s.cpu.iflag ||| s.lcd.lyRequest 144#8 ||| 1#8 ||| s.lcd.modeRequest .m1) := by
  have hnext : s.lcd.ly + 1#8 = 144#8 := by rw [hy]; rfl
  simp only [lcdAct, h, lcdActM0, hnext, setLy_lcd, if_true, enterMode_setLy]
  rfl

theorem lcdAct_of_m0 (h : s.lcd.mode = .m0) (hy : s.lcd.ly ≠ 143#8) :
    lcdAct s = s.scanned (modeStat .m2 (s.lcd.lyStat (s.lcd.ly + 1#8))) (s.lcd.ly + 1#8) (some (s.cyc + s.params.mode2Cycles))
      s.lcd.lines s.lcd.winY s.lcd.image (s.cpu.iflag ||| s.lcd.lyRequest (s.lcd.ly + 1#8) ||| s.lcd.modeRequest .m2) := by
  have hnext : s.lcd.ly + 1#8 ≠ 144#8 := fun he => hy (by bv_omega)
  simp only [lcdAct, h, lcdActM0, hnext, setLy_lcd, if_false, enterMode_setLy, reduceCtorEq, BitVec.or_zero]
  rfl

theorem lcdAct_of_m1_last (h : s.lcd.mode = .m1) (hy : s.lcd.ly = 153#8) :
    lcdAct s = s.scanned (modeStat .m2 (s.lcd.lyStat 0#8)) 0#8 (some (s.cyc + s.params.mode2Cycles)) [] 0 s.lcd.image
      (s.cpu.iflag ||| s.lcd.lyRequest 0#8 ||| s.lcd.modeRequest .m2) := by
  have hfresh : enterMode .m2 (freshFrame (setLy 0#8 s)) = freshFrame (enterMode .m2 (setLy 0#8 s)) := by
    rw [enterMode_eq, enterMode_eq]; rfl
  simp only [lcdAct, h, lcdActM1, hy, hfresh, enterMode_setLy, if_true, reduceCtorEq, if_false, BitVec.or_zero]
  rfl

theorem lcdAct_of_m1 (h : s.lcd.mode = .m1) (hy : s.lcd.ly ≠ 153#8) :
    lcdAct s = s.scanned (s.lcd.lyStat (s.lcd.ly + 1#8)) (s.lcd.ly + 1#8) (some (s.cyc + s.params.vblankLineCycles))
      s.lcd.lines s.lcd.winY s.lcd.image (s.cpu.iflag ||| s.lcd.lyRequest (s.lcd.ly + 1#8)) := by
  simp only [lcdAct, h, lcdActM1, hy, if_false, setLy_eq]
  rfl

theorem lcdEnable_eq : lcdEnable s = s.scanned (modeStat .m2 s.lcd.stat) s.lcd.ly (some (s.cyc + s.params.mode2Cycles)) [] 0
    s.lcd.image (s.cpu.iflag ||| s.lcd.modeRequest .m2) := by
  simp only [lcdEnable, enterMode_eq, reduceCtorEq, if_false, BitVec.or_zero]
  rfl

theorem mode_scanned (m : Mode) (v ly next lines winY image iflag) :
    (s.scanned (modeStat m v) ly next lines winY image iflag).lcd.mode = m :=
  Lcd.mode_withMode { s.lcd with stat := v } m

theorem lyStat_and_F8 (l : Lcd) (v : Byte) : l.lyStat v &&& 0xF8#8 = l.stat &&& 0xF8#8 := bitSet_two_and_F8 _ _

theorem getLsbD_lyStat (l : Lcd) (v : Byte) : (l.lyStat v).getLsbD 2 = decide (v = l.lyc) :=
  getLsbD_bitSet_self (by decide) _ _

theorem mode_lyStat (v ly next lines winY image iflag) :
    (s.scanned (s.lcd.lyStat v) ly next lines winY image iflag).lcd.mode = s.lcd.mode :=
  have ⟨h0, h1⟩ := getLsbD_bitSet_two s.lcd.stat (v == s.lcd.lyc)
  Lcd.mode_congr h0 h1

/-- What every action leaves of the state, and of STAT. -/
theorem lcdAct_scanned (s : State) : ∃ stat ly next lines winY image iflag,
    lcdAct s = s.scanned stat ly next lines winY image iflag ∧ stat &&& 0xF8#8 = s.lcd.stat &&& 0xF8#8 ∧
      stat.getLsbD 2 = if s.lcd.mode = .m2 ∨ s.lcd.mode = .m3 then s.lcd.stat.getLsbD 2 else decide (ly = s.lcd.lyc) := by
  have entered : ∀ m v, modeStat m (s.lcd.lyStat v) &&& 0xF8#8 = s.lcd.stat &&& 0xF8#8 := fun m v =>
    (modeStat_and_F8 m _).trans (lyStat_and_F8 s.lcd v)
  have compared : ∀ m v, (modeStat m (s.lcd.lyStat v)).getLsbD 2 = decide (v = s.lcd.lyc) := fun m v =>
    (getLsbD_modeStat (Nat.le_refl 2) _).trans (getLsbD_lyStat s.lcd v)
  cases h : s.lcd.mode with
  | m2 => exact ⟨_, _, _, _, _, _, _, lcdAct_of_m2 h, modeStat_and_F8 _ _, getLsbD_modeStat (Nat.le_refl 2) _⟩
  | m3 => exact ⟨_, _, _, _, _, _, _, lcdAct_of_m3 h, modeStat_and_F8 _ _, getLsbD_modeStat (Nat.le_refl 2) _⟩
  | m0 =>
    by_cases hy : s.lcd.ly = 143#8
    · exact ⟨_, _, _, _, _, _, _, lcdAct_of_m0_last h hy, entered _ _, compared _ _⟩
    · exact ⟨_, _, _, _, _, _, _, lcdAct_of_m0 h hy, entered _ _, compared _ _⟩
  | m1 =>
    by_cases hy : s.lcd.ly = 153#8
    · exact ⟨_, _, _, _, _, _, _, lcdAct_of_m1_last h hy, entered _ _, compared _ _⟩
    · exact ⟨_, _, _, _, _, _, _, lcdAct_of_m1 h hy, lyStat_and_F8 _ _, getLsbD_lyStat _ _⟩

end

/-- Settles O50: each action is the state that its equation gives. -/
theorem scanlineAction : Obligations.ScanlineAction := by
  rintro s _ _ stat lyc rfl rfl hstat hlyc
  have hly : ∀ v, lyc v = s.lcd.lyRequest v := hlyc
  have h0 : stat 3 = s.lcd.modeRequest .m0 := hstat 3
  have h1 : stat 4 = s.lcd.modeRequest .m1 := hstat 4
  have h2 : stat 5 = s.lcd.modeRequest .m2 := hstat 5
  simp only [hly, h0, h1, h2]
  refine ⟨fun h => ?_, fun h => ?_, fun h => ?_, fun h => ?_, ?_, lcdEnable_eq⟩
  · rw [lcdAct_of_m2 h]
    exact ⟨mode_scanned .m3 _ _ _ _ _ _ _, rfl, rfl, rfl, rfl, rfl, rfl⟩
  · rw [lcdAct_of_m3 h]
    exact ⟨mode_scanned .m0 _ _ _ _ _ _ _, rfl, rfl, rfl, rfl, rfl, rfl⟩
  · by_cases hy : s.lcd.ly = 143#8
    · rw [lcdAct_of_m0_last h hy]
      have hnext : s.lcd.ly + 1#8 = 144#8 := by rw [hy]; rfl
      exact ⟨hnext.symm, rfl, rfl, fun _ => ⟨mode_scanned .m1 _ _ _ _ _ _ _, rfl, rfl, rfl⟩, fun hne => absurd hy hne⟩
    · rw [lcdAct_of_m0 h hy]
      exact ⟨rfl, rfl, rfl, fun he => absurd he hy, fun _ => ⟨mode_scanned .m2 _ _ _ _ _ _ _, rfl, rfl, rfl⟩⟩
  · by_cases hy : s.lcd.ly = 153#8
    · rw [lcdAct_of_m1_last h hy]
      exact ⟨rfl, fun _ => ⟨mode_scanned .m2 _ _ _ _ _ _ _, rfl, rfl, rfl, rfl, rfl⟩, fun hne => absurd hy hne⟩
    · rw [lcdAct_of_m1 h hy]
      exact ⟨rfl, fun he => absurd he hy, fun _ => ⟨(mode_lyStat _ _ _ _ _ _ _).trans h, rfl, rfl, rfl, rfl, rfl⟩⟩
  · obtain ⟨_, _, _, _, _, _, _, ht, hkept, hcompared⟩ := lcdAct_scanned s
    rw [ht]
    exact ⟨hkept, hcompared, rfl⟩

/-! ## The LCD controller's registers on the bus -/

theorem or_ite_zero {w : Nat} (p : Prop) [Decidable p] (x y : BitVec w) :
    (x ||| if p then y else 0#w) = if p then x ||| y else x := by
  split
  · rfl
  · exact BitVec.or_zero

/-- STAT after the display is disabled: mode 0, and the comparison (`63_lcd_controller.md` R516). -/
theorem modeStat_m0_bitSet (v : Byte) (b : Bool) :
    modeStat .m0 (bitSet v 2 b) = (v &&& 0xF8#8) ||| if b = true then 0x04#8 else 0#8 := by
  revert v b
  decide

/-- Disabling the display (R516). -/
theorem lcdDisable_eq (s : State) : lcdDisable s = { s with
    lcd := { s.lcd with
      ly := 0#8, next := none, lines := []
      stat := (s.lcd.stat &&& 0xF8#8) ||| (if s.lcd.lyc = 0#8 then 0x04#8 else 0#8) }
    cpu := { s.cpu with
      iflag := if s.lcd.lyc = 0#8 ∧ s.lcd.stat.getLsbD 6 = true then s.cpu.iflag ||| 0x02#8 else s.cpu.iflag } } := by
  have hstat := modeStat_m0_bitSet s.lcd.stat (0#8 == s.lcd.lyc)
  simp only [beq_iff_eq, eq_comm (a := 0#8)] at hstat
  simp only [lcdDisable, setLy_eq, Lcd.withMode_eq, hstat, or_ite_zero, eq_comm (a := 0#8)]

theorem writeLyc_eq (s : State) (v : Byte) : writeLyc s v = { s with
    lcd := { s.lcd with lyc := v, stat := (s.lcd.stat &&& 0xFB#8) ||| (if s.lcd.ly = v then 0x04#8 else 0#8) }
    cpu := { s.cpu with
      iflag := if s.lcd.ly = v ∧ s.lcd.stat.getLsbD 6 = true then s.cpu.iflag ||| 0x02#8 else s.cpu.iflag } } := by
  simp only [writeLyc, compareLy_eq, bitSet_two_eq, or_ite_zero, beq_iff_eq]

/-- Who answers where: the controller's three ranges (R491, R494). -/
theorem lcdClaims_none {a : Addr} (h : a.toNat < 0x8000 ∨ (0x9FFF < a.toNat ∧ a.toNat < 0xFE00) ∨
    (0xFE9F < a.toNat ∧ a.toNat < 0xFF40) ∨ 0xFF4B < a.toNat) : participantClaims .lcd a = false := by
  have hv : inVram a = false := by simp only [inVram, Bool.and_eq_false_iff, decide_eq_false_iff_not]; omega
  have ho : inOam a = false := by simp only [inOam, Bool.and_eq_false_iff, decide_eq_false_iff_not]; omega
  rw [participantClaims, hv, ho, lcdRegAt_none (by omega)]
  rfl

/-- Settles O52: the write of each register is `writeLcdReg`, and only LCDC and LYC do more than store. -/
theorem lcdRegisterWrites : Obligations.LcdRegisterWrites := by
  intro s v off hoff
  refine ⟨fun hall => ?_, fun a => ⟨fun hlo hhi => ?_, fun hlo hhi => ?_, fun h => participantRead_unclaimed (lcdClaims_none h) s⟩⟩
  · have hw : ∀ r : LcdReg, busWrite s r.addr v = writeLcdReg s r v := fun r => busWrite_lcdReg (hall r) v
    have hr : ∀ r : LcdReg, busRead s r.addr = s.lcd.readReg r := fun r => busRead_lcdReg_claimed (hall r)
    have hlcdc : busWrite s 0xFF40#16 v = if off = true then lcdDisable { s with lcd := { s.lcd with lcdc := v } }
        else { s with lcd := { s.lcd with lcdc := v } } := hoff ▸ hw .lcdc
    refine ⟨fun h => ?_, fun h => ?_, hw .stat, hw .scy, hw .scx, hw .ly, ?_, hw .dma, hw .bgp, hw .obp0, hw .obp1, hw .wy,
      hw .wx, hr .lcdc, hr .stat, hr .scy, hr .scx, hr .ly, hr .lyc, hr .dma, hr .bgp, hr .obp0, hr .obp1, hr .wy, hr .wx⟩
    · rw [hlcdc, h]; rfl
    · rw [hlcdc, h]; exact lcdDisable_eq _
    · exact (hw .lyc).trans (writeLyc_eq s v)
  · have hv : inVram a = true := by simp only [inVram, Bool.and_eq_true, decide_eq_true_eq]; exact ⟨hlo, hhi⟩
    exact if_pos hv
  · have hv : inVram a = false := by simp only [inVram, Bool.and_eq_false_iff, decide_eq_false_iff_not]; omega
    have ho : inOam a = true := by simp only [inOam, Bool.and_eq_true, decide_eq_true_eq]; exact ⟨hlo, hhi⟩
    simp only [participantRead, Lcd.read, hv, ho, Bool.false_eq_true, if_false, if_true]

end Sys2Proof.Machine

/-! PROOFS. The Joypad: the bits of P1, and what a key event changes of them. -/

namespace Sys2Proof.Machine

/-! ## The bits of P1 -/

/-- Line bit b as the select bits expose it (`65_joypad.md` R613). -/
theorem Joypad.getLsbD_low4 (j : Joypad) (b : Nat) : j.low4.getLsbD b =
    (j.sel.getLsbD 0 && j.line0.getLsbD b || j.sel.getLsbD 1 && j.line1.getLsbD b) := by
  rw [Joypad.low4, BitVec.getLsbD_or]
  cases j.sel.getLsbD 0 <;> cases j.sel.getLsbD 1 <;> simp

/-- The lines are the low four bits of the visible register (R613). -/
theorem Joypad.getLsbD_p1int_line (j : Joypad) (b : Fin 4) : j.p1int.getLsbD b.val = j.low4.getLsbD b.val := by
  have hb := b.isLt
  have h8 : b.val < 8 := by omega
  simp [Joypad.p1int, hb, h8, -BitVec.getLsbD_eq_getElem]

/-- The select bits are the next two; above them nothing is set. -/
theorem Joypad.getLsbD_p1int_sel (j : Joypad) {i : Nat} (h : 4 ≤ i) (h8 : i < 8) : j.p1int.getLsbD i = j.sel.getLsbD (i - 4) := by
  have hlow : j.low4.getLsbD i = false := BitVec.getLsbD_of_ge _ i h
  have hi : ¬i < 4 := by omega
  have hk : i - 4 < 8 := by omega
  simp [Joypad.p1int, hlow, h8, hi, hk, -BitVec.getLsbD_eq_getElem]

/-- The stored select bits are the complement of bits 4 and 5 of the byte written (R612). -/
theorem getLsbD_select (x y : Bool) :
    ((if x then 0#2 else 1#2) ||| (if y then 0#2 else 2#2)).getLsbD 0 = !x ∧
      ((if x then 0#2 else 1#2) ||| (if y then 0#2 else 2#2)).getLsbD 1 = !y := by
  revert x y
  decide

/-! ## Key events -/

/-- The four keys of a line, in the order of their bits (R617). -/
theorem key_of_line (k : Key) (b : Fin 4) :
    (([.right, .left, .up, .down] : List Key)[b.val]? = some k ↔ k.onLine1 = false ∧ b.val = k.bit) ∧
      (([.a, .b, .select, .start] : List Key)[b.val]? = some k ↔ k.onLine1 = true ∧ b.val = k.bit) := by
  revert b
  cases k <;> decide

theorem Key.bit_lt (k : Key) : k.bit < 4 := by cases k <;> decide

@[simp] theorem Joypad.setKey_sel (j : Joypad) (k : Key) (held : Bool) : (j.setKey k held).sel = j.sel := by
  unfold Joypad.setKey
  split <;> rfl

/-- A press sets the key's bit in its line. -/
theorem Joypad.getLsbD_setKey_true (j : Joypad) (k : Key) (i : Nat) :
    (j.setKey k true).line0.getLsbD i = (j.line0.getLsbD i || decide (k.onLine1 = false ∧ i = k.bit)) ∧
      (j.setKey k true).line1.getLsbD i = (j.line1.getLsbD i || decide (k.onLine1 = true ∧ i = k.bit)) := by
  cases h : k.onLine1 <;> simp [Joypad.setKey, h, getLsbD_bitSet_true k.bit_lt, -BitVec.getLsbD_eq_getElem]

/-- A release clears it. -/
theorem Joypad.getLsbD_setKey_false (j : Joypad) (k : Key) (i : Nat) :
    (j.setKey k false).line0.getLsbD i = (j.line0.getLsbD i && !decide (k.onLine1 = false ∧ i = k.bit)) ∧
      (j.setKey k false).line1.getLsbD i = (j.line1.getLsbD i && !decide (k.onLine1 = true ∧ i = k.bit)) := by
  cases h : k.onLine1 <;> simp [Joypad.setKey, h, getLsbD_bitSet_false k.bit_lt, -BitVec.getLsbD_eq_getElem]

/-- Whether a visible bit turns on. -/
theorem turnsOn_iff (new old : BitVec 4) :
    (new &&& ~~~old != 0#4) = true ↔ ∃ b : Fin 4, new.getLsbD b.val = true ∧ old.getLsbD b.val = false := by
  have hbit : ∀ b : Fin 4, (new &&& ~~~old).getLsbD b.val = true ↔ new.getLsbD b.val = true ∧ old.getLsbD b.val = false := by
    intro b
    simp [b.isLt, -BitVec.getLsbD_eq_getElem]
  simp only [bne_iff_ne, ← hbit]
  refine ⟨fun h => ?_, fun ⟨b, hb⟩ hz => ?_⟩
  · refine Decidable.byContradiction fun hno => h (BitVec.eq_of_getLsbD_eq fun i hi => ?_)
    rw [BitVec.getLsbD_zero]
    exact Bool.eq_false_iff.mpr fun hset => hno ⟨⟨i, hi⟩, hset⟩
  · rw [hz, BitVec.getLsbD_zero] at hb
    exact Bool.false_ne_true hb

/-- A key event (R614, R615): the line bit, and the request where a visible bit turns on. -/
theorem keyEvent_eq (k : Key) (held : Bool) (s : State) : keyEvent k held s = { s with
    joypad := s.joypad.setKey k held
    cpu := { s.cpu with
      iflag := s.cpu.iflag ||| if ∃ b : Fin 4, (s.joypad.setKey k held).low4.getLsbD b.val = true ∧
        s.joypad.low4.getLsbD b.val = false then 0x10#8 else 0#8 } } := by
  simp only [keyEvent, requestIf_eq, turnsOn_iff]
  rfl

/-- A release turns no visible bit on (R615). -/
theorem setKey_false_turns_nothing_on (j : Joypad) (k : Key) :
    ¬∃ b : Fin 4, (j.setKey k false).low4.getLsbD b.val = true ∧ j.low4.getLsbD b.val = false := by
  rintro ⟨b, hnew, hold⟩
  obtain ⟨h0, h1⟩ := j.getLsbD_setKey_false k b.val
  simp only [Joypad.getLsbD_low4, Joypad.setKey_sel, h0, h1] at hnew hold
  simp only [Bool.or_eq_true, Bool.and_eq_true] at hnew
  obtain ⟨hsel, hline, -⟩ | ⟨hsel, hline, -⟩ := hnew <;>
    simp [hsel, hline, -BitVec.getLsbD_eq_getElem] at hold

/-- Settles O53: P1 bit by bit, and a key event as its key's bit and the request for a visible bit that turns on. -/
theorem joypadEvents : Obligations.JoypadEvents := by
  rintro s v k low _ _ rfl rfl hlow
  have hl : ∀ (t : State) (b : Fin 4), low t b = t.joypad.low4.getLsbD b.val := fun t b =>
    (hlow t b).trans (Joypad.getLsbD_low4 _ _).symm
  simp only [hl, key_of_line]
  refine ⟨fun hp => ?_, ⟨_, rfl, ?_⟩, ⟨_, rfl, ?_⟩⟩
  · have hread : ∀ i < 8, (busRead s 0xFF00#16).getLsbD i = !s.joypad.p1int.getLsbD i := fun i hi => by
      rw [busRead_p1 hp, BitVec.getLsbD_not, decide_eq_true hi, Bool.true_and]
    have hsel : ∀ i, 4 ≤ i → i < 8 → (busRead s 0xFF00#16).getLsbD i = !s.joypad.sel.getLsbD (i - 4) := fun i h4 h8 => by
      rw [hread i h8, Joypad.getLsbD_p1int_sel _ h4 h8]
    have hunused : ∀ i, 2 ≤ i → s.joypad.sel.getLsbD i = false := fun i hi => BitVec.getLsbD_of_ge _ i hi
    refine ⟨⟨_, busWrite_p1 hp v, getLsbD_select _ _⟩, fun b => ?_, hsel 4 (by decide) (by decide), hsel 5 (by decide) (by decide), ?_, ?_⟩
    · rw [hread b.val (by omega), Joypad.getLsbD_p1int_line]
    · rw [hsel 6 (by decide) (by decide), hunused _ (by decide)]; rfl
    · rw [hsel 7 (by decide) (by decide), hunused _ (by decide)]; rfl
  · rw [keyPressed, keyEvent_eq]
    exact ⟨rfl, Joypad.setKey_sel _ _ _, fun b => Joypad.getLsbD_setKey_true _ _ _, rfl⟩
  · rw [keyReleased, keyEvent_eq, if_neg (setKey_false_turns_nothing_on _ _), BitVec.or_zero]
    exact ⟨rfl, Joypad.setKey_sel _ _ _, fun b => Joypad.getLsbD_setKey_false _ _ _⟩

end Sys2Proof.Machine

/-! PROOFS. Image lines column by column: what each operation shows and where it is opaque, the laws that follow, and how a
scanline is composed. -/

namespace Sys2Proof.BitVector

/-! ## Bits -/

/-- Bit x of a wrapped extraction (`64_lcd_image.md` R574). -/
theorem getLsbD_extractWrapped {w size x : Nat} (v : BitVec w) (start : Int) (hw : 0 < w) (hx : x < size) :
    (extractWrapped v start size).getLsbD x = v.getLsbD ((start + x) % w).toNat := by
  have h0 : 0 ≤ start % w := Int.emod_nonneg start (by omega)
  have hplace : ((start % w).toNat + x) % w = ((start + x) % w).toNat := by
    rw [← Int.toNat_natCast (((start % w).toNat + x) % w), Int.natCast_emod, Int.natCast_add, Int.toNat_of_nonneg h0,
      Int.emod_add_emod]
  have hcopies : (start % w).toNat + x < w * (((start % w).toNat + size) / w + 1) := by
    have := Nat.lt_mul_div_succ ((start % w).toNat + size) hw
    omega
  simp only [extractWrapped]
  rw [BitVec.getLsbD_ofNat, Nat.testBit_shiftRight, BitVec.testBit_toNat, BitVec.getLsbD_replicate, decide_eq_true hx,
    decide_eq_true hcopies, Bool.true_and, Bool.true_and, hplace]

theorem extractWrapped_add_width {w : Nat} (v : BitVec w) (start : Int) (size : Nat) :
    extractWrapped v (start + w) size = extractWrapped v start size := by
  rw [extractWrapped, Int.add_emod_right, extractWrapped]

/-- Shifts of the same sign add up (R592): no bit that the first pushes out comes back. -/
theorem shift_shift {w : Nat} (v : BitVec w) {d e : Int} (h : (0 ≤ d ∧ 0 ≤ e) ∨ (d ≤ 0 ∧ e ≤ 0)) :
    shift (shift v d) e = shift v (d + e) := by
  refine BitVec.eq_of_getLsbD_eq fun x hx => ?_
  rw [getLsbD_shift _ _ hx, getLsbD_shift _ _ hx]
  obtain hin | hout := Nat.lt_or_ge ((x : Int) - e).toNat w
  · rw [getLsbD_shift _ _ hin]
    by_cases he : e ≤ x
    · have hd : d ≤ (((x : Int) - e).toNat : Int) ↔ d + e ≤ x := by omega
      have hplace : ((((x : Int) - e).toNat : Int) - d).toNat = ((x : Int) - (d + e)).toNat := by omega
      rw [decide_eq_true he, Bool.true_and, decide_eq_decide.mpr hd, hplace]
    · rw [decide_eq_false he, decide_eq_false (by omega : ¬d + e ≤ x), Bool.false_and, Bool.false_and]
  · rw [BitVec.getLsbD_of_ge _ _ hout, BitVec.getLsbD_of_ge v _ (by omega), Bool.and_false, Bool.and_false]

end Sys2Proof.BitVector

namespace Sys2Proof.LcdLine

/-! ## Columns -/

variable {w : Nat}

theorem bool_eq_of_toNat_eq {b c : Bool} (h : b.toNat = c.toNat) : b = c := by
  revert b c
  decide

/-- Two lines that agree in every column are equal (`64_lcd_image.md` R580). -/
theorem ext_columns {l t : LcdLine w} (hc : ∀ x < w, l.colour x = t.colour x) (ho : ∀ x < w, l.opaqueAt x = t.opaqueAt x) :
    l = t := by
  have planes : ∀ x < w, l.msb.getLsbD x = t.msb.getLsbD x ∧ l.lsb.getLsbD x = t.lsb.getLsbD x := by
    intro x hx
    have h := hc x hx
    have hl := Bool.toNat_lt (l.lsb.getLsbD x)
    have ht := Bool.toNat_lt (t.lsb.getLsbD x)
    unfold colour at h
    exact ⟨bool_eq_of_toNat_eq (by omega), bool_eq_of_toNat_eq (by omega)⟩
  cases l
  cases t
  simp only [mk.injEq]
  exact ⟨BitVec.eq_of_getLsbD_eq fun x hx => (planes x hx).1, BitVec.eq_of_getLsbD_eq fun x hx => (planes x hx).2,
    BitVec.eq_of_getLsbD_eq ho⟩

theorem colour_lt (l : LcdLine w) (x : Nat) : l.colour x < 4 := by
  unfold colour
  cases l.msb.getLsbD x <;> cases l.lsb.getLsbD x <;> decide

theorem colour_empty (x : Nat) : (empty w).colour x = 0 := by simp [colour, empty]

theorem opaqueAt_empty (x : Nat) : (empty w).opaqueAt x = false := BitVec.getLsbD_zero

/-- A line under another shows the upper one where the opacity plane used is set (R586). -/
theorem colour_belowWith (l t : LcdLine w) (op : BitVec w) {x : Nat} (hx : x < w) :
    (l.belowWith t op).colour x = if op.getLsbD x then t.colour x else l.colour x := by
  simp only [belowWith, colour, BitVec.getLsbD_or, BitVec.getLsbD_and, BitVec.getLsbD_not, decide_eq_true hx, Bool.true_and]
  cases op.getLsbD x <;> simp

theorem opaqueAt_belowWith (l t : LcdLine w) (op : BitVec w) (x : Nat) :
    (l.belowWith t op).opaqueAt x = (l.opaqueAt x || op.getLsbD x) := BitVec.getLsbD_or

/-- Three lines under one another, grouped from below or from above (R592). -/
theorem colour_below_below (a b c : LcdLine w) {x : Nat} (hx : x < w) :
    ((a.below b).below c).colour x = (if c.opaqueAt x then c.colour x else if b.opaqueAt x then b.colour x else a.colour x) ∧
      (a.below (b.below c)).colour x =
        (if c.opaqueAt x then c.colour x else if b.opaqueAt x then b.colour x else a.colour x) := by
  simp only [colour_below _ _ hx, opaqueAt_below]
  cases c.opaqueAt x <;> cases b.opaqueAt x <;> simp

theorem opaqueAt_below_below (a b c : LcdLine w) (x : Nat) :
    ((a.below b).below c).opaqueAt x = (a.opaqueAt x || b.opaqueAt x || c.opaqueAt x) ∧
      (a.below (b.below c)).opaqueAt x = (a.opaqueAt x || b.opaqueAt x || c.opaqueAt x) := by
  simp only [opaqueAt_below, Bool.or_assoc, and_self]

theorem below_assoc (a b c : LcdLine w) : (a.below b).below c = a.below (b.below c) :=
  ext_columns (fun _ hx => (colour_below_below a b c hx).1.trans (colour_below_below a b c hx).2.symm)
    fun x _ => (opaqueAt_below_below a b c x).1.trans (opaqueAt_below_below a b c x).2.symm

/-- The palette 0xE4 gives every colour itself (R592). -/
theorem mapColors_identity (l : LcdLine w) : l.mapColors 0xE4#8 = l := by
  have hentry : ∀ k < 4, ((0xE4#8).toNat >>> (2 * k)) % 4 = k := by decide
  exact ext_columns (fun x hx => (colour_mapColors l _ hx).trans (hentry _ (l.colour_lt x))) fun _ _ => rfl

theorem colour_extractWrapped {size x : Nat} (l : LcdLine w) (start : Int) (hw : 0 < w) (hx : x < size) :
    (l.extractWrapped start size).colour x = l.colour ((start + x) % w).toNat := by
  simp only [colour, extractWrapped, BitVector.getLsbD_extractWrapped _ _ hw hx]

theorem opaqueAt_extractWrapped {size x : Nat} (l : LcdLine w) (start : Int) (hw : 0 < w) (hx : x < size) :
    (l.extractWrapped start size).opaqueAt x = l.opaqueAt ((start + x) % w).toNat :=
  BitVector.getLsbD_extractWrapped _ _ hw hx

theorem extractWrapped_add_width (l : LcdLine w) (start : Int) (size : Nat) :
    l.extractWrapped (start + w) size = l.extractWrapped start size := by
  simp only [extractWrapped, BitVector.extractWrapped_add_width]

theorem shift_shift (l : LcdLine w) {d e : Int} (h : (0 ≤ d ∧ 0 ≤ e) ∨ (d ≤ 0 ∧ e ≤ 0)) :
    (l.shift d).shift e = l.shift (d + e) := by
  simp only [shift, BitVector.shift_shift _ h]

end Sys2Proof.LcdLine

namespace Sys2Proof

/-- Settles O56: each law is a law of the columns. -/
theorem imageLaws : Obligations.ImageLaws := by
  intro w a b c k size x d e hw
  refine ⟨fun op i hi => ⟨LcdLine.colour_belowWith a b op hi, LcdLine.opaqueAt_belowWith a b op i⟩,
    fun i hi => ⟨LcdLine.colour_below a b hi, LcdLine.opaqueAt_below a b i⟩, fun i hi l hl => ?_, LcdLine.below_assoc a b c,
    LcdLine.mapColors_identity a, (LcdLine.extractWrapped_add_width a k size).symm, LcdLine.colour_extractWrapped a k hw,
    LcdLine.shift_shift a⟩
  obtain ⟨hc, hc'⟩ := LcdLine.colour_below_below a b c hi
  obtain ⟨ho, ho'⟩ := LcdLine.opaqueAt_below_below a b c i
  simp only [List.mem_cons, List.not_mem_nil, or_false] at hl
  obtain rfl | rfl := hl
  · exact ⟨hc, ho⟩
  · exact ⟨hc', ho'⟩

end Sys2Proof

namespace Sys2Proof.Machine

/-! ## The composition of a scanline -/

/-- A column of a composed line (`63_lcd_controller.md` R529). -/
theorem colour_composite (bgwin behind front : LcdLine 160) {x : Nat} (hx : x < 160) :
    (composite bgwin behind front).colour x =
      if front.opaqueAt x then front.colour x
      else if bgwin.opaqueAt x then bgwin.colour x
      else if behind.opaqueAt x then behind.colour x
      else bgwin.colour x := by
  have hplane : (bgwin.opacity ||| ~~~behind.opacity).getLsbD x = (bgwin.opaqueAt x || !behind.opaqueAt x) := by
    rw [BitVec.getLsbD_or, BitVec.getLsbD_not, decide_eq_true hx, Bool.true_and]
    rfl
  rw [composite, LcdLine.colour_below _ _ hx, LcdLine.colour_belowWith _ _ _ hx, hplane]
  cases bgwin.opaqueAt x <;> cases behind.opaqueAt x <;> rfl

theorem Lcd.computeLine_of_off {l : Lcd} (h : l.lcdc.getLsbD 1 = false) (y : Nat) :
    l.computeLine y = l.windowOver (l.backgroundLine y) y := by
  simp only [Lcd.computeLine, h, Bool.false_eq_true, if_false]

theorem Lcd.computeLine_of_on {l : Lcd} (h : l.lcdc.getLsbD 1 = true) (y : Nat) : l.computeLine y =
    (composite (l.windowOver (l.backgroundLine y) y).1 (l.spriteLayer (l.selectSprites y) y true)
      (l.spriteLayer (l.selectSprites y) y false), (l.windowOver (l.backgroundLine y) y).2) := by
  simp only [Lcd.computeLine, h, if_true]

theorem Lcd.backgroundLine_of_off {l : Lcd} (h : l.lcdc.getLsbD 0 = false) (y : Nat) : l.backgroundLine y = LcdLine.empty 160 := by
  simp only [Lcd.backgroundLine, h, Bool.false_eq_true, if_false]

theorem Lcd.windowOver_of_inactive {l : Lcd} {y : Nat} (h : l.windowActive y = false) (bg : LcdLine 160) :
    l.windowOver bg y = (bg, l.winY) := by
  simp only [Lcd.windowOver, h, Bool.false_eq_true, if_false]

/-- Where the window is not drawn (R524). -/
theorem Lcd.windowActive_eq_false {l : Lcd} {y : Nat}
    (h : l.lcdc.getLsbD 5 = false ∨ y < l.wy.toNat ∨ l.wx.toNat < 7 ∨ 167 ≤ l.wx.toNat) : l.windowActive y = false := by
  simp only [Lcd.windowActive, Bool.and_eq_false_iff, decide_eq_false_iff_not, Nat.not_le, Nat.not_lt, or_assoc]
  exact h

/-- Settles O57: the columns of `composite`, and the branches of `computeLine`. -/
theorem compositePixels : Obligations.CompositePixels := by
  refine ⟨fun bgwin behind front x hx => colour_composite bgwin behind front hx, ?_⟩
  rintro l y _ _ rfl rfl
  refine ⟨fun h => Lcd.computeLine_of_off h y, fun h => Lcd.computeLine_of_on h y, fun h0 h1 hwin x => ?_⟩
  rw [Lcd.computeLine_of_off h1, Lcd.backgroundLine_of_off h0, Lcd.windowOver_of_inactive (Lcd.windowActive_eq_false hwin)]
  exact ⟨LcdLine.colour_empty x, LcdLine.opaqueAt_empty x⟩

end Sys2Proof.Machine

/-! PROOFS. The pixels of a scanline: lines built byte by byte, the tile maps, the window, and the sprites. -/

namespace Sys2Proof

/-! ## Lines built byte by byte -/

section
variable {w n : Nat}

/-- A byte with its bits written one by one, each from f. -/
theorem getLsbD_foldl_bitSet (f : Nat → Bool) (hn : n ≤ w) (i : Nat) :
    ((List.range n).foldl (fun r j => bitSet r j (f j)) 0#w).getLsbD i = (decide (i < n) && f i) := by
  induction n with
  | zero => simp
  | succ n ih =>
    rw [List.range_succ, List.foldl_append, List.foldl_cons, List.foldl_nil]
    obtain rfl | hne := Decidable.em (i = n)
    · rw [Machine.getLsbD_bitSet_self hn, decide_eq_true (Nat.lt_succ_self i), Bool.true_and]
    · rw [Machine.getLsbD_bitSet_ne hn hne, ih (by omega), decide_eq_decide.mpr (by omega : i < n ↔ i < n + 1)]

theorem getLsbD_reverse8 (b : Byte) {i : Nat} (hi : i < 8) : (reverse8 b).getLsbD i = b.getLsbD (7 - i) := by
  have h := getLsbD_foldl_bitSet (w := 8) (fun j => b.getLsbD (7 - j)) (Nat.le_refl 8) i
  rwa [decide_eq_true hi, Bool.true_and] at h

/-- The builder's `setByte` (`64_lcd_image.md` R576). -/
theorem BitVector.getLsbD_setByte (v : BitVec w) (k : Nat) (b : Byte) {i : Nat} (hi : i < w) :
    (setByte v k b).getLsbD i = if 8 * k ≤ i ∧ i < 8 * k + 8 then b.getLsbD (i - 8 * k) else v.getLsbD i := by
  have hmask : (0xFF#w).getLsbD (i - 8 * k) = decide (i - 8 * k < 8) := by
    rw [BitVec.getLsbD_ofNat, decide_eq_true (by omega : i - 8 * k < w), Bool.true_and]
    exact Nat.testBit_two_pow_sub_one 8 (i - 8 * k)
  rw [setByte, BitVec.getLsbD_or, BitVec.getLsbD_and, BitVec.getLsbD_not, BitVec.getLsbD_shiftLeft, BitVec.getLsbD_shiftLeft,
    hmask, BitVec.getLsbD_setWidth, decide_eq_true hi, decide_eq_true (by omega : i - 8 * k < w)]
  simp only [Bool.true_and]
  split
  case isTrue h => simp [Nat.not_lt.mpr h.1, (by omega : i - 8 * k < 8), -BitVec.getLsbD_eq_getElem]
  case isFalse h =>
    obtain hlt | hge := Nat.lt_or_ge i (8 * k)
    · simp [hlt]
    · have hout : ¬i - 8 * k < 8 := by omega
      simp [hout, BitVec.getLsbD_of_ge b (i - 8 * k) (by omega), -BitVec.getLsbD_eq_getElem]

theorem LcdLine.getLsbD_setBytes (planes : BitVec w × BitVec w) (k : Nat) (m l : Byte) {i : Nat} (hi : i < w) :
    (setBytes planes k m l).1.getLsbD i =
        (if 8 * k ≤ i ∧ i < 8 * k + 8 then m.getLsbD (i - 8 * k) else planes.1.getLsbD i) ∧
      (setBytes planes k m l).2.getLsbD i =
        (if 8 * k ≤ i ∧ i < 8 * k + 8 then l.getLsbD (i - 8 * k) else planes.2.getLsbD i) :=
  ⟨BitVector.getLsbD_setByte _ _ _ hi, BitVector.getLsbD_setByte _ _ _ hi⟩

/-- The colour planes of a line of n bytes, byte k from m and l at k. -/
def LcdLine.planesOf (w n : Nat) (m l : Nat → Byte) : BitVec w × BitVec w :=
  (List.range n).foldl (fun planes k => setBytes planes k (m k) (l k)) (0#w, 0#w)

theorem LcdLine.planesOf_succ (m l : Nat → Byte) : planesOf w (n + 1) m l = setBytes (planesOf w n m l) n (m n) (l n) := by
  rw [planesOf, List.range_succ, List.foldl_append]
  rfl

theorem LcdLine.getLsbD_planesOf (m l : Nat → Byte) {i : Nat} (hi : i < w) :
    (planesOf w n m l).1.getLsbD i = (decide (i < 8 * n) && (m (i / 8)).getLsbD (i % 8)) ∧
      (planesOf w n m l).2.getLsbD i = (decide (i < 8 * n) && (l (i / 8)).getLsbD (i % 8)) := by
  induction n with
  | zero => simp [planesOf]
  | succ n ih =>
    obtain ⟨hm, hl⟩ := getLsbD_setBytes (planesOf w n m l) n (m n) (l n) hi
    rw [planesOf_succ, hm, hl, ih.1, ih.2]
    by_cases h : 8 * n ≤ i ∧ i < 8 * n + 8
    · have hk : i / 8 = n := by omega
      have hb : i - 8 * n = i % 8 := by omega
      have hlt : i < 8 * (n + 1) := by omega
      simp only [if_pos h, hk, hb, decide_eq_true hlt, Bool.true_and, and_self]
    · simp only [if_neg h, decide_eq_decide.mpr (by omega : i < 8 * n ↔ i < 8 * (n + 1)), and_self]

end

namespace LcdLine

variable {w : Nat}

theorem colour_build (planes : BitVec w × BitVec w) (x : Nat) :
    (build planes).colour x = 2 * (planes.1.getLsbD x).toNat + (planes.2.getLsbD x).toNat := rfl

/-- A built line is opaque where its colour is not 0 (`64_lcd_image.md` R581). -/
theorem opaqueAt_build (planes : BitVec w × BitVec w) (x : Nat) :
    (build planes).opaqueAt x = decide ((build planes).colour x ≠ 0) := by
  rw [colour_build]
  simp only [build, opaqueAt, BitVec.getLsbD_or]
  cases planes.1.getLsbD x <;> cases planes.2.getLsbD x <;> rfl

theorem colour_shift (l : LcdLine w) (d : Int) {x : Nat} (hx : x < w) :
    (l.shift d).colour x = if d ≤ x then l.colour ((x : Int) - d).toNat else 0 := by
  simp only [colour, shift, BitVector.getLsbD_shift _ _ hx]
  split
  case isTrue h => simp [h]
  case isFalse h => simp [h]

theorem opaqueAt_shift (l : LcdLine w) (d : Int) {x : Nat} (hx : x < w) :
    (l.shift d).opaqueAt x = (decide (d ≤ x) && l.opaqueAt ((x : Int) - d).toNat) := BitVector.getLsbD_shift _ _ hx

/-- The mask of `join` (R588). -/
theorem getLsbD_joinMask {n x : Nat} (hx : x < w) : (joinMask w n).getLsbD x = decide (x < n) := by
  rw [joinMask, BitVec.getLsbD_ofNat, Nat.testBit_two_pow_sub_one, decide_eq_true hx, Bool.true_and]

theorem colour_join (l t : LcdLine w) {n x : Nat} (hx : x < w) :
    (l.join t n).colour x = if x < n then l.colour x else t.colour x := by
  simp only [join, colour, BitVec.getLsbD_or, BitVec.getLsbD_and, BitVec.getLsbD_not, getLsbD_joinMask hx, decide_eq_true hx,
    Bool.true_and]
  split
  case isTrue h => simp [h]
  case isFalse h => simp [h]

theorem opaqueAt_join (l t : LcdLine w) {n x : Nat} (hx : x < w) :
    (l.join t n).opaqueAt x = if x < n then l.opaqueAt x else t.opaqueAt x := by
  simp only [join, opaqueAt, BitVec.getLsbD_or, BitVec.getLsbD_and, BitVec.getLsbD_not, getLsbD_joinMask hx, decide_eq_true hx,
    Bool.true_and]
  split
  case isTrue h => simp [h]
  case isFalse h => simp [h]

end LcdLine

end Sys2Proof

namespace Sys2Proof.Machine

/-! ## Background and window -/

/-- The raw colour of bit i of a tile row whose two bytes stand at a (`63_lcd_controller.md` R522). -/
def Lcd.rawAt (l : Lcd) (a i : Nat) : Nat := 2 * ((l.vramAt (a + 1)).getLsbD i).toNat + ((l.vramAt a).getLsbD i).toNat

/-- The address of a tile, its index signed where LCDC[4] is 0 (R523). -/
theorem Lcd.tileDataAddr_eq (l : Lcd) (idx : Byte) :
    l.tileDataAddr idx = if l.lcdc.getLsbD 4 then 0x8000 + 16 * idx.toNat else (0x9000 + 16 * idx.toInt).toNat := by
  rw [tileDataAddr, BitVec.toInt_eq_toNat_cond]
  split
  · rfl
  · have := idx.isLt
    split <;> split <;> omega

/-- The address of the tile row that a map names at a column and a row of background pixels (R522). -/
def Lcd.tileRowAddr (l : Lcd) (base row bx : Nat) : Nat :=
  l.tileDataAddr (l.vramAt (base + 32 * (row / 8) + bx / 8)) + 2 * (row % 8)

theorem Lcd.tileLine_eq_build (l : Lcd) (base row : Nat) : l.tileLine base row = LcdLine.build (LcdLine.planesOf 256 32
    (fun tx => reverse8 (l.vramAt (l.tileDataAddr (l.vramAt (base + 32 * (row / 8) + tx)) + 2 * (row % 8) + 1)))
    (fun tx => reverse8 (l.vramAt (l.tileDataAddr (l.vramAt (base + 32 * (row / 8) + tx)) + 2 * (row % 8))))) := rfl

/-- A pixel of a row of a tile map (R522). -/
theorem Lcd.colour_tileLine (l : Lcd) (base row : Nat) {bx : Nat} (hx : bx < 256) :
    (l.tileLine base row).colour bx = l.rawAt (l.tileRowAddr base row bx) (7 - bx % 8) := by
  have h8 : bx % 8 < 8 := Nat.mod_lt _ (by decide)
  rw [tileLine_eq_build, LcdLine.colour_build, (LcdLine.getLsbD_planesOf _ _ hx).1, (LcdLine.getLsbD_planesOf _ _ hx).2,
    decide_eq_true (by omega : bx < 8 * 32), Bool.true_and, Bool.true_and, getLsbD_reverse8 _ h8, getLsbD_reverse8 _ h8]
  rfl

/-- The same, with the index, the address and the colour as the statements name them. -/
theorem Lcd.colour_tileLine_eq_raw {l : Lcd} {base row bx a raw : Nat} {idx : Byte} (hx : bx < 256)
    (hidx : idx = l.vramAt (base + 32 * (row / 8) + bx / 8))
    (ha : a = (if l.lcdc.getLsbD 4 then 0x8000 + 16 * idx.toNat else (0x9000 + 16 * idx.toInt).toNat) + 2 * (row % 8))
    (hraw : raw = l.rawAt a (7 - bx % 8)) : (l.tileLine base row).colour bx = raw := by
  rw [colour_tileLine _ _ _ hx, hraw, ha, hidx, ← tileDataAddr_eq]
  rfl

theorem Lcd.opaqueAt_tileLine (l : Lcd) (base row x : Nat) :
    (l.tileLine base row).opaqueAt x = decide ((l.tileLine base row).colour x ≠ 0) := LcdLine.opaqueAt_build _ x

theorem Lcd.backgroundLine_of_on {l : Lcd} (h : l.lcdc.getLsbD 0 = true) (y : Nat) : l.backgroundLine y =
    ((l.tileLine (mapBase (l.lcdc.getLsbD 3)) ((y + l.scy.toNat) % 256)).extractWrapped (l.scx.toNat : Int) 160).mapColors l.bgp := by
  simp only [Lcd.backgroundLine, h, if_true]

/-- Settles O58: the background line is a tile line read from SCX on, around its 256 pixels. -/
theorem backgroundPixels : Obligations.BackgroundPixels := by
  intro l x y bx row idx a raw hx hbx hrow hidx ha hraw
  refine ⟨fun hon => ?_, fun hoff => ?_⟩
  · have hplace : (((l.scx.toNat : Int) + x) % (256 : Nat)).toNat = bx := by omega
    have hcolour : (l.tileLine (mapBase (l.lcdc.getLsbD 3)) row).colour bx = raw :=
      Lcd.colour_tileLine_eq_raw (by omega) hidx ha hraw
    rw [Lcd.backgroundLine_of_on hon, ← hrow, LcdLine.colour_mapColors _ _ hx, LcdLine.opaqueAt_mapColors,
      LcdLine.colour_extractWrapped _ _ (by decide) hx, LcdLine.opaqueAt_extractWrapped _ _ (by decide) hx, hplace,
      Lcd.opaqueAt_tileLine, hcolour]
    exact ⟨rfl, rfl⟩
  · rw [Lcd.backgroundLine_of_off hoff]
    exact ⟨LcdLine.colour_empty x, LcdLine.opaqueAt_empty x⟩

theorem Lcd.windowOver_of_active {l : Lcd} {y : Nat} (h : l.windowActive y = true) (bg : LcdLine 160) : l.windowOver bg y =
    (bg.join ((((l.tileLine (mapBase (l.lcdc.getLsbD 6)) l.winY).extractWrapped 0 160).shift
      ((l.wx.toNat - 7 : Nat) : Int)).mapColors l.bgp) (l.wx.toNat - 7), l.winY + 1) := by
  simp only [Lcd.windowOver, h, if_true]

theorem Lcd.windowActive_eq (l : Lcd) (y : Nat) : l.windowActive y =
    (l.lcdc.getLsbD 5 && decide (l.wy.toNat ≤ y) && decide (7 ≤ l.wx.toNat) && decide (l.wx.toNat - 7 < 160)) := by
  have hwx : (decide (7 ≤ l.wx.toNat) && decide (l.wx.toNat < 167)) =
      (decide (7 ≤ l.wx.toNat) && decide (l.wx.toNat - 7 < 160)) := by
    rw [← Bool.decide_and, ← Bool.decide_and]
    exact decide_eq_decide.mpr (by omega)
  rw [Lcd.windowActive, Bool.and_assoc, hwx, ← Bool.and_assoc]

/-- Settles O59: left of WX - 7 `join` keeps the background; from there on it shows a tile line from its first pixel on. -/
theorem windowPixels : Obligations.WindowPixels := by
  intro l bg x y bx idx a raw active hx hactive hbx hidx ha hraw
  rw [← Lcd.windowActive_eq] at hactive
  subst hactive
  refine ⟨fun h => Lcd.windowOver_of_inactive h bg, fun h => ?_⟩
  rw [Lcd.windowOver_of_active h]
  refine ⟨rfl, fun hlt => ?_, fun hge => ?_⟩
  · exact ⟨(LcdLine.colour_join _ _ hx).trans (if_pos hlt), (LcdLine.opaqueAt_join _ _ hx).trans (if_pos hlt)⟩
  · have hshift : ((l.wx.toNat - 7 : Nat) : Int) ≤ x := by omega
    have hoffset : ((x : Int) - ((l.wx.toNat - 7 : Nat) : Int)).toNat = bx := by omega
    have hplace : ((0 + (bx : Int)) % (256 : Nat)).toNat = bx := by omega
    have hcolour : (l.tileLine (mapBase (l.lcdc.getLsbD 6)) l.winY).colour bx = raw :=
      Lcd.colour_tileLine_eq_raw (by omega) hidx ha hraw
    have hin : bx < 160 := by omega
    rw [LcdLine.colour_join _ _ hx, LcdLine.opaqueAt_join _ _ hx, if_neg (Nat.not_lt.mpr hge), if_neg (Nat.not_lt.mpr hge),
      LcdLine.colour_mapColors _ _ hx, LcdLine.opaqueAt_mapColors, LcdLine.colour_shift _ _ hx, LcdLine.opaqueAt_shift _ _ hx,
      if_pos hshift, decide_eq_true hshift, hoffset, LcdLine.colour_extractWrapped _ _ (by decide) hin,
      LcdLine.opaqueAt_extractWrapped _ _ (by decide) hin, hplace, Lcd.opaqueAt_tileLine, hcolour, Bool.true_and]
    exact ⟨rfl, rfl⟩

end Sys2Proof.Machine

/-! PROOFS. The sprites of a scanline: which are selected and in which order, the pixels of each, and their layers. -/

namespace Sys2Proof.Machine

/-! ## Selection -/

/-- The first m elements of a filtered range. -/
theorem mem_take_filter_range (p : Nat → Bool) (n m i : Nat) :
    i ∈ ((List.range n).filter p).take m ↔ i < n ∧ p i = true ∧ ((List.range i).filter p).length < m := by
  induction n with
  | zero => simp
  | succ n ih =>
    have hlast : ∀ k, i ∈ ([n].filter p).take k ↔ i = n ∧ p n = true ∧ 0 < k := by
      intro k
      cases hp : p n <;> cases k <;> simp [hp]
    rw [List.range_succ, List.filter_append, List.take_append, List.mem_append, ih, hlast, Nat.sub_pos_iff_lt]
    refine ⟨?_, fun ⟨hi, hp, hm⟩ => ?_⟩
    · rintro (⟨hi, hp, hm⟩ | ⟨rfl, hp, hm⟩)
      · exact ⟨Nat.lt_succ_of_lt hi, hp, hm⟩
      · exact ⟨Nat.lt_succ_self i, hp, hm⟩
    · obtain hi | rfl := Nat.lt_succ_iff_lt_or_eq.mp hi
      · exact .inl ⟨hi, hp, hm⟩
      · exact .inr ⟨rfl, hp, hm⟩

/-! ## Order -/

theorem insertByKey_perm (key : Nat → Nat) (i : Nat) (l : List Nat) : (insertByKey key i l).Perm (i :: l) := by
  induction l with
  | nil => exact .refl _
  | cons j js ih =>
    unfold insertByKey
    split
    · exact .refl _
    · exact (ih.cons j).trans (.swap i j js)

theorem sortByKey_perm (key : Nat → Nat) (l : List Nat) : (sortByKey key l).Perm l := by
  induction l with
  | nil => exact .refl _
  | cons i is ih => exact (insertByKey_perm key i _).trans (ih.cons i)

theorem insertByKey_sorted {key : Nat → Nat} {l : List Nat} (h : l.Pairwise (key · ≤ key ·)) (i : Nat) :
    (insertByKey key i l).Pairwise (key · ≤ key ·) := by
  induction l with
  | nil => exact List.pairwise_singleton _ _
  | cons j js ih =>
    obtain ⟨hj, hjs⟩ := List.pairwise_cons.mp h
    unfold insertByKey
    split
    case isTrue hij =>
      refine List.pairwise_cons.mpr ⟨fun k hk => ?_, h⟩
      obtain rfl | hk := List.mem_cons.mp hk
      · exact hij
      · exact Nat.le_trans hij (hj k hk)
    case isFalse hij =>
      refine List.pairwise_cons.mpr ⟨fun k hk => ?_, ih hjs⟩
      obtain rfl | hk := List.mem_cons.mp ((insertByKey_perm key i js).mem_iff.mp hk)
      · exact Nat.le_of_not_le hij
      · exact hj k hk

theorem sortByKey_sorted (key : Nat → Nat) (l : List Nat) : (sortByKey key l).Pairwise (key · ≤ key ·) := by
  induction l with
  | nil => exact .nil
  | cons i is ih => exact insertByKey_sorted ih i

/-- Keys that differ put the elements in one strict order. -/
theorem sortByKey_strict {key : Nat → Nat} {l : List Nat} (hd : l.Nodup) (hkey : ∀ i ∈ l, ∀ j ∈ l, key i = key j → i = j) :
    (sortByKey key l).Pairwise (key · < key ·) := by
  have hperm := sortByKey_perm key l
  have hnodup : (sortByKey key l).Nodup := hperm.nodup_iff.mpr hd
  refine ((sortByKey_sorted key l).and hnodup).imp_of_mem fun {i j} hi hj ⟨hle, hne⟩ => ?_
  exact Nat.lt_of_le_of_ne hle fun he => hne (hkey i (hperm.mem_iff.mp hi) j (hperm.mem_iff.mp hj) he)

/-- The key of an entry as a number: X, then the index (`63_lcd_controller.md` R526). -/
theorem Lcd.spriteKey_eq (l : Lcd) {i : Nat} (hi : i < 40) : l.spriteKey i = 256 * l.spriteX i + i := by
  have hlt : i < 2 ^ 8 := by omega
  rw [spriteKey, ← Nat.shiftLeft_add_eq_or_of_lt hlt, Nat.shiftLeft_eq]
  omega

/-- The selection (R525, R526). -/
theorem Lcd.selectSprites_spec (l : Lcd) (y : Nat) {key : Nat → Nat} (hkey : ∀ i, key i = 256 * l.spriteX i + i) :
    (l.selectSprites y).length ≤ 10 ∧ (l.selectSprites y).Pairwise (fun i j => key i < key j) ∧
      ∀ i, i ∈ l.selectSprites y ↔
        i < 40 ∧ l.intersects y i = true ∧ ((List.range i).filter (l.intersects y)).length < 10 := by
  have hperm : (l.selectSprites y).Perm (((List.range 40).filter (l.intersects y)).take 10) := sortByKey_perm _ _
  have hmem : ∀ i, i ∈ ((List.range 40).filter (l.intersects y)).take 10 ↔
      i < 40 ∧ l.intersects y i = true ∧ ((List.range i).filter (l.intersects y)).length < 10 :=
    mem_take_filter_range (l.intersects y) 40 10
  have hsel : ∀ i ∈ ((List.range 40).filter (l.intersects y)).take 10, l.spriteKey i = key i ∧ i < 40 := fun i hi => by
    obtain ⟨h40, -⟩ := (hmem i).mp hi
    exact ⟨(l.spriteKey_eq h40).trans (hkey i).symm, h40⟩
  refine ⟨hperm.length_eq ▸ List.length_take_le _ _, ?_, fun i => hperm.mem_iff.trans (hmem i)⟩
  have hnodup : (((List.range 40).filter (l.intersects y)).take 10).Nodup :=
    ((List.take_sublist _ _).trans List.filter_sublist).nodup List.nodup_range
  have hstrict : (l.selectSprites y).Pairwise (fun i j => l.spriteKey i < l.spriteKey j) := by
    refine sortByKey_strict hnodup fun i hi j hj he => ?_
    obtain ⟨hki, hi40⟩ := hsel i hi
    obtain ⟨hkj, hj40⟩ := hsel j hj
    rw [hki, hkj, hkey, hkey] at he
    omega
  refine hstrict.imp_of_mem fun {i j} hi hj hlt => ?_
  rwa [← (hsel i (hperm.mem_iff.mp hi)).1, ← (hsel j (hperm.mem_iff.mp hj)).1]

/-! ## The line of a sprite -/

/-- The tile of an entry: its low bit is cleared at height 16 (R527). -/
theorem and_FE_toNat (t : Byte) : (t &&& 0xFE#8).toNat = t.toNat / 2 * 2 := by
  revert t
  decide

/-- The address of the row of pixels that entry i shows on line y: the row from above, or with bit 6 from below, of its tile. -/
def Lcd.spriteRowAddr (l : Lcd) (i y : Nat) : Nat :=
  0x8000 + 16 * (if l.spriteHeight = 16 then l.spriteTile i &&& 0xFE#8 else l.spriteTile i).toNat +
    2 * (if (l.spriteAttr i).getLsbD 6 then l.spriteHeight - 1 - (y + 16 - l.spriteY i) else y + 16 - l.spriteY i)

/-- The palette that bit 4 chooses. -/
def Lcd.spritePalette (l : Lcd) (i : Nat) : Byte := if (l.spriteAttr i).getLsbD 4 then l.obp1 else l.obp0

/-- The two bytes of a row at a, the high bits' first, with pixel j at bit j. -/
def Lcd.spriteBytes (l : Lcd) (flip : Bool) (a : Nat) : Byte × Byte :=
  if flip then (l.vramAt (a + 1), l.vramAt a) else (reverse8 (l.vramAt (a + 1)), reverse8 (l.vramAt a))

theorem Lcd.spriteLine_eq (l : Lcd) (i y : Nat) : l.spriteLine i y =
    ((LcdLine.build (LcdLine.setBytes (0#160, 0#160) 0
      (l.spriteBytes ((l.spriteAttr i).getLsbD 5) (l.spriteRowAddr i y)).1
      (l.spriteBytes ((l.spriteAttr i).getLsbD 5) (l.spriteRowAddr i y)).2)).shift ((l.spriteX i : Int) - 8)).mapColors
        (l.spritePalette i) := rfl

theorem Lcd.raw_spriteBytes (l : Lcd) (flip : Bool) (a : Nat) {j : Nat} (hj : j < 8) :
    2 * ((l.spriteBytes flip a).1.getLsbD j).toNat + ((l.spriteBytes flip a).2.getLsbD j).toNat =
      l.rawAt a (if flip then j else 7 - j) := by
  cases flip with
  | true => rfl
  | false =>
    simp only [spriteBytes, Bool.false_eq_true, if_false, getLsbD_reverse8 _ hj]
    rfl

/-- The raw colour of entry i in column x of line y: that of its eight pixels from column X - 8 on, 0 elsewhere. -/
def Lcd.spriteRaw (l : Lcd) (i y x : Nat) : Nat :=
  if l.spriteX i ≤ x + 8 ∧ x < l.spriteX i then
    l.rawAt (l.spriteRowAddr i y)
      (if (l.spriteAttr i).getLsbD 5 then x + 8 - l.spriteX i else 7 - (x + 8 - l.spriteX i))
  else 0

/-- A line of one byte in each plane, the rest colour 0. -/
theorem colour_build_byte (m b : Byte) (j : Nat) : (LcdLine.build (LcdLine.setBytes (0#160, 0#160) 0 m b)).colour j =
    2 * (m.getLsbD j).toNat + (b.getLsbD j).toNat := by
  have hplane : ∀ c : Byte, (BitVector.setByte 0#160 0 c).getLsbD j = c.getLsbD j := by
    intro c
    obtain hj | hj := Nat.lt_or_ge j 160
    · rw [BitVector.getLsbD_setByte _ _ _ hj]
      split
      · rfl
      · rw [BitVec.getLsbD_zero, BitVec.getLsbD_of_ge c j (by omega)]
    · rw [BitVec.getLsbD_of_ge _ j hj, BitVec.getLsbD_of_ge c j (by omega)]
  rw [LcdLine.colour_build, LcdLine.setBytes, hplane, hplane]

theorem opaqueAt_shift_build {w : Nat} (planes : BitVec w × BitVec w) (d : Int) {x : Nat} (hx : x < w) :
    ((LcdLine.build planes).shift d).opaqueAt x = decide (((LcdLine.build planes).shift d).colour x ≠ 0) := by
  rw [LcdLine.opaqueAt_shift _ _ hx, LcdLine.colour_shift _ _ hx, LcdLine.opaqueAt_build]
  split
  case isTrue h => rw [decide_eq_true h, Bool.true_and]
  case isFalse h => rw [decide_eq_false h]; rfl

theorem Lcd.colour_shift_spriteBytes (l : Lcd) (i y : Nat) {x : Nat} (hx : x < 160) :
    ((LcdLine.build (LcdLine.setBytes (0#160, 0#160) 0
      (l.spriteBytes ((l.spriteAttr i).getLsbD 5) (l.spriteRowAddr i y)).1
      (l.spriteBytes ((l.spriteAttr i).getLsbD 5) (l.spriteRowAddr i y)).2)).shift ((l.spriteX i : Int) - 8)).colour x =
        l.spriteRaw i y x := by
  rw [LcdLine.colour_shift _ _ hx, colour_build_byte, spriteRaw]
  by_cases hin : l.spriteX i ≤ x + 8 ∧ x < l.spriteX i
  · have hd : (l.spriteX i : Int) - 8 ≤ x := by omega
    have hj : ((x : Int) - ((l.spriteX i : Int) - 8)).toNat = x + 8 - l.spriteX i := by omega
    rw [if_pos hin, if_pos hd, hj]
    exact l.raw_spriteBytes _ _ (by omega)
  · rw [if_neg hin]
    split
    case isTrue hd =>
      have hj : 8 ≤ ((x : Int) - ((l.spriteX i : Int) - 8)).toNat := by omega
      rw [BitVec.getLsbD_of_ge _ _ hj, BitVec.getLsbD_of_ge _ _ hj]
      rfl
    case isFalse => rfl

/-- A column of a sprite's line (R527). -/
theorem Lcd.spriteLine_column (l : Lcd) (i y : Nat) {x : Nat} (hx : x < 160) :
    (l.spriteLine i y).colour x = ((l.spritePalette i).toNat >>> (2 * l.spriteRaw i y x)) % 4 ∧
      (l.spriteLine i y).opaqueAt x = decide (l.spriteRaw i y x ≠ 0) := by
  rw [spriteLine_eq, LcdLine.colour_mapColors _ _ hx, LcdLine.opaqueAt_mapColors, opaqueAt_shift_build _ _ hx,
    colour_shift_spriteBytes _ _ _ hx]
  exact ⟨rfl, rfl⟩

/-! ## Layers -/

/-- A column of a layer with one more sprite under it (R528). -/
theorem Lcd.spriteLayer_append_column (l : Lcd) (s : List Nat) (i y : Nat) (p : Bool) {x : Nat} (hx : x < 160) :
    (l.spriteLayer (s ++ [i]) y p).opaqueAt x =
        ((l.spriteLayer s y p).opaqueAt x || ((l.spriteAttr i).getLsbD 7 == p && (l.spriteLine i y).opaqueAt x)) ∧
      (l.spriteLayer (s ++ [i]) y p).colour x =
        if (l.spriteLayer s y p).opaqueAt x = false ∧ (l.spriteAttr i).getLsbD 7 = p then (l.spriteLine i y).colour x
        else (l.spriteLayer s y p).colour x := by
  rw [spriteLayer_append]
  by_cases hp : (l.spriteAttr i).getLsbD 7 = p
  · rw [if_pos hp, LcdLine.opaqueAt_below, LcdLine.colour_below _ _ hx, beq_iff_eq.mpr hp, Bool.true_and, Bool.or_comm]
    refine ⟨rfl, ?_⟩
    cases (l.spriteLayer s y p).opaqueAt x <;> simp [hp, -BitVec.getLsbD_eq_getElem]
  · rw [if_neg hp, beq_eq_false_iff_ne.mpr hp, Bool.false_and, Bool.or_false, if_neg fun h => hp h.2]
    exact ⟨rfl, rfl⟩

/-- What shows in a column of a layer: the first sprite that is of the layer and opaque there. -/
theorem Lcd.spriteLayer_column (l : Lcd) (y : Nat) (p : Bool) {x : Nat} (hx : x < 160) (s : List Nat) :
    (∀ j, s.find? (fun j => (l.spriteAttr j).getLsbD 7 == p && (l.spriteLine j y).opaqueAt x) = some j →
        (l.spriteLayer s y p).opaqueAt x = true ∧ (l.spriteLayer s y p).colour x = (l.spriteLine j y).colour x) ∧
      (s.find? (fun j => (l.spriteAttr j).getLsbD 7 == p && (l.spriteLine j y).opaqueAt x) = none →
        (l.spriteLayer s y p).opaqueAt x = false) := by
  obtain ⟨r, rfl⟩ : ∃ r, s = r.reverse := ⟨s.reverse, s.reverse_reverse.symm⟩
  induction r with
  | nil => exact ⟨nofun, fun _ => LcdLine.opaqueAt_empty x⟩
  | cons i r ih =>
    obtain ⟨ihsome, ihnone⟩ := ih
    obtain ⟨hopaque, hcolour⟩ := l.spriteLayer_append_column r.reverse i y p hx
    rw [List.reverse_cons, List.find?_append, hopaque, hcolour]
    cases hs : r.reverse.find? (fun j => (l.spriteAttr j).getLsbD 7 == p && (l.spriteLine j y).opaqueAt x) with
    | some k =>
      obtain ⟨ho, hc⟩ := ihsome k hs
      refine ⟨fun j hj => ?_, nofun⟩
      obtain rfl : k = j := Option.some.inj hj
      rw [ho, if_neg fun h => Bool.noConfusion h.1]
      exact ⟨rfl, hc⟩
    | none =>
      rw [ihnone hs, Bool.false_or, Option.none_or, List.find?_singleton]
      cases hi : (l.spriteAttr i).getLsbD 7 == p && (l.spriteLine i y).opaqueAt x with
      | false => exact ⟨nofun, fun _ => rfl⟩
      | true =>
        refine ⟨fun j hj => ?_, nofun⟩
        obtain rfl : i = j := Option.some.inj hj
        rw [if_pos ⟨rfl, beq_iff_eq.mp (Bool.and_eq_true_iff.mp hi).1⟩]
        exact ⟨rfl, rfl⟩

/-- Settles O60: the selection is a sorted permutation of the first ten that intersect; a sprite's line is its eight pixels moved to
its place; a layer grows by a sprite under it. -/
theorem spriteSelection : Obligations.SpriteSelection := by
  intro l y h on key sprites hh hon hkey hsprites
  obtain rfl : h = l.spriteHeight := hh
  obtain rfl : on = l.intersects y := funext hon
  refine ⟨hsprites ▸ l.selectSprites_spec y hkey, ?_, fun s i p => ⟨rfl, l.spriteLayer_append s i y p, fun x hx => ?_⟩⟩
  · rintro i x _ row tile a bit raw _ _ - hx rfl rfl hrow htile ha hbit hraw rfl
    have haddr : a = l.spriteRowAddr i y := by
      rw [ha, htile, hrow, Lcd.spriteRowAddr, apply_ite BitVec.toNat, and_FE_toNat]
      rfl
    have hr : raw = l.spriteRaw i y x := by
      rw [hraw, hbit, haddr]
      rfl
    rw [hr]
    exact l.spriteLine_column i y hx
  · obtain ⟨hsome, hnone⟩ := l.spriteLayer_column y p hx s
    split
    case h_1 j hj => exact hsome j hj
    case h_2 hn => exact hnone hn

end Sys2Proof.Machine
